-- ==== Sys2Proof/Word.lean ====
section
/-! DEFINITION. The widths the K6-2 computes with (spec/00_scope.md R13). -/

namespace Sys2Proof

/-- One byte: the unit of memory (R71). -/
abbrev Byte := BitVec 8

/-- A 16-bit operand, offset or selector (R105). -/
abbrev Word := BitVec 16

/-- A 32-bit register or linear address (R40, R71). -/
abbrev Dword := BitVec 32

end Sys2Proof
end

