-- ==== Sys2Proof/Machine/Bits.lean ====
section
/-! DEFINITION. Bit fields, byte order and sign extension (R13, R77, R109). -/

namespace Sys2Proof.Machine

/-- The byte at the lower address of a 16-bit datum (R77). -/
def loByte (v : Word) : Byte := v.extractLsb' 0 8

/-- The byte at the higher address of a 16-bit datum (R77). -/
def hiByte (v : Word) : Byte := v.extractLsb' 8 8

/-- `hi ++ lo`: the 16-bit datum whose low byte comes first (R77). -/
def joinBytes (lo hi : Byte) : Word := hi ++ lo

/-- `sext_16` of an 8-bit immediate or displacement (R13, R109). -/
def sext16 (v : Byte) : Word := v.signExtend 16

/-- `zext_32` (R13). -/
def zext32 (v : Word) : Dword := v.setWidth 32

/-- `trunc_16` of a 32-bit value (R13). -/
def low16 (v : Dword) : Word := v.setWidth 16

/-- Write bits 15:0 of a 32-bit register and leave bits 31:16 (R40). -/
def putLow16 (x : Dword) (v : Word) : Dword := (x &&& 0xFFFF0000#32) ||| v.setWidth 32

/-- Write bits 7:0 of a 32-bit register and leave the rest (R40). -/
def putByte0 (x : Dword) (v : Byte) : Dword := (x &&& 0xFFFFFF00#32) ||| v.setWidth 32

/-- Write bits 15:8 of a 32-bit register and leave the rest (R40). -/
def putByte1 (x : Dword) (v : Byte) : Dword := (x &&& 0xFFFF00FF#32) ||| (v.setWidth 32 <<< 8)

/-- `x` with bit `i` set to `b`. -/
def setBit {w : Nat} (x : BitVec w) (i : Nat) (b : Bool) : BitVec w :=
  (x &&& ~~~(1#w <<< i)) ||| (if b then 1#w <<< i else 0#w)

/-- The low `n` bits of a number, bit 0 first: a register whose length is a parameter (R11). -/
def bitsOf (n w : Nat) : List Bool := (List.range n).map w.testBit

/-- `parity8`: true when bits 7:0 hold an even number of ones (R263). -/
def parity8 (v : Word) : Bool :=
  !(v.getLsbD 0 ^^ v.getLsbD 1 ^^ v.getLsbD 2 ^^ v.getLsbD 3 ^^
    v.getLsbD 4 ^^ v.getLsbD 5 ^^ v.getLsbD 6 ^^ v.getLsbD 7)

/-- The real-address-mode base of a selector: `zext_32(sel) << 4` (R43). -/
def selBase (sel : Word) : Dword := zext32 sel <<< 4

/-- Put `a` into a set kept as a strictly rising list. -/
def setInsert : List Nat → Nat → List Nat
  | [], a => [a]
  | b :: t, a => if a < b then a :: b :: t else if a = b then b :: t else b :: setInsert t a

end Sys2Proof.Machine
end

