-- ==== Sys2Proof/Machine/TapCodes.lean ====
section
/-! DEFINITION. The open parameters of the TAP's instruction register (R11, R101, R212, D16). -/

namespace Sys2Proof.Machine

/-- IR_LEN, the five instruction codes and IR_CAPTURE: open in the spec, so data that claims quantify over.
Bit `i` of a code is element `i` of its list. -/
structure TapCodes where
  len : Nat
  extest : List Bool
  sample : List Bool
  idcode : List Bool
  highz : List Bool
  bypass : List Bool
  capture : List Bool
deriving DecidableEq, Repr

/-- The five codes. -/
def TapCodes.all (p : TapCodes) : List (List Bool) := [p.extest, p.sample, p.idcode, p.highz, p.bypass]

/-- What D16 lets a model assume: every value has IR_LEN bits, the codes are distinct, BYPASS is all ones,
IR_CAPTURE[1:0] = 01b. -/
def TapCodes.wf (p : TapCodes) : Bool :=
  (p.capture :: p.all).all (fun c => decide (c.length = p.len)) && decide p.all.Nodup &&
  p.bypass.all id && decide (p.capture.take 2 = [true, false])

/-- The expected values of R11: PRESUMED (log 5). -/
def TapCodes.expected : TapCodes :=
  { len := 5, extest := bitsOf 5 0b00000, sample := bitsOf 5 0b00001, idcode := bitsOf 5 0b00010
    highz := bitsOf 5 0b00011, bypass := bitsOf 5 0b11111, capture := bitsOf 5 0b00001 }

end Sys2Proof.Machine
end

