-- ==== Sys2Proof/Syntax.lean ====
section
/-! DEFINITION. The instructions: one constructor for each row of spec/opcode_table.json, and the
named refusals of spec/30_encoding.md R118. -/

namespace Sys2Proof

/-- The 16-bit general registers in index order (R40, R110). -/
inductive Reg where
  | ax | cx | dx | bx | sp | bp | si | di
deriving DecidableEq, Repr

/-- The 8-bit general registers in index order (R40, R110). -/
inductive Reg8 where
  | al | cl | dl | bl | ah | ch | dh | bh
deriving DecidableEq, Repr

/-- The segment registers in index order (R43, R110). -/
inductive Sreg where
  | es | cs | ss | ds | fs | gs
deriving DecidableEq, Repr

/-- The `reg` field of 8Ch and 8Eh: a segment register, or one of the two numbers that name none (R110, R116). -/
inductive SregField where
  | seg (r : Sreg)
  | six
  | seven
deriving DecidableEq, Repr

/-- The base expressions of a memory operand in the order of the `rm` field (R107). -/
inductive EaBase where
  | bxSi | bxDi | bpSi | bpDi | si | di | bp | bx
deriving DecidableEq, Repr

/-- The displacement after a base expression: none, 8 bits (mod 01), 16 bits (mod 10) (R107). -/
inductive Disp where
  | none
  | d8 (v : Byte)
  | d16 (v : Word)
deriving DecidableEq, Repr

/-- The r/m operand (R107): a register (mod 11), a base with a displacement, or a direct offset
(mod 00, rm 110). -/
inductive Rm where
  | reg (r : Reg)
  | based (b : EaBase) (d : Disp)
  | direct (off : Word)
deriving DecidableEq, Repr

/-- The encodings the decoder refuses, by the names of R118. -/
inductive RefusedEncoding where
  | prefixSegmentOverride
  | prefixOperandOrAddressSize
  | prefixLock
  | prefixRep
  | alu8OrMov8Form
  | pushPopSegment
  | bcdAdjust
  | i186I286Forms
  | stringInstruction
  | xchg
  | lea
  | group1aOr5
  | cbwCwd
  | farCallOrFarReturn
  | x87
  | pushfPopfSahfLahf
  | testAccImm
  | retImm16
  | lesLds
  | enterLeave
  | into
  | salcXlatIcebp
  | loopccJcxz
  | inOutAxImm8
  | rotateOrSalAlias
  | groupUndefinedSlot
  | twoByteOpcode
deriving DecidableEq, Repr

/-- One constructor for each row of the opcode table, in its order. Destination operands stand first,
as in the Intel syntax of R119. -/
inductive Instr where
  /-- EXTEST (R241). -/
  | extest
  /-- SAMPLE/PRELOAD (R242). -/
  | samplePreload
  /-- IDCODE (R243). -/
  | idcode
  /-- HIGHZ (R244). -/
  | highz
  /-- BYPASS (R245). -/
  | bypass
  /-- ADD r/m16, r16 (R281). -/
  | addRmR (rm : Rm) (r : Reg)
  /-- ADD r16, r/m16 (R281). -/
  | addRRm (r : Reg) (rm : Rm)
  /-- ADD AX, imm16 (R281). -/
  | addAxImm (imm : Word)
  /-- OR r/m16, r16 (R282). -/
  | orRmR (rm : Rm) (r : Reg)
  /-- OR r16, r/m16 (R282). -/
  | orRRm (r : Reg) (rm : Rm)
  /-- OR AX, imm16 (R282). -/
  | orAxImm (imm : Word)
  /-- ADC r/m16, r16 (R283). -/
  | adcRmR (rm : Rm) (r : Reg)
  /-- ADC r16, r/m16 (R283). -/
  | adcRRm (r : Reg) (rm : Rm)
  /-- ADC AX, imm16 (R283). -/
  | adcAxImm (imm : Word)
  /-- SBB r/m16, r16 (R284). -/
  | sbbRmR (rm : Rm) (r : Reg)
  /-- SBB r16, r/m16 (R284). -/
  | sbbRRm (r : Reg) (rm : Rm)
  /-- SBB AX, imm16 (R284). -/
  | sbbAxImm (imm : Word)
  /-- AND r/m16, r16 (R285). -/
  | andRmR (rm : Rm) (r : Reg)
  /-- AND r16, r/m16 (R285). -/
  | andRRm (r : Reg) (rm : Rm)
  /-- AND AX, imm16 (R285). -/
  | andAxImm (imm : Word)
  /-- SUB r/m16, r16 (R286). -/
  | subRmR (rm : Rm) (r : Reg)
  /-- SUB r16, r/m16 (R286). -/
  | subRRm (r : Reg) (rm : Rm)
  /-- SUB AX, imm16 (R286). -/
  | subAxImm (imm : Word)
  /-- XOR r/m16, r16 (R287). -/
  | xorRmR (rm : Rm) (r : Reg)
  /-- XOR r16, r/m16 (R287). -/
  | xorRRm (r : Reg) (rm : Rm)
  /-- XOR AX, imm16 (R287). -/
  | xorAxImm (imm : Word)
  /-- CMP r/m16, r16 (R288). -/
  | cmpRmR (rm : Rm) (r : Reg)
  /-- CMP r16, r/m16 (R288). -/
  | cmpRRm (r : Reg) (rm : Rm)
  /-- CMP AX, imm16 (R288). -/
  | cmpAxImm (imm : Word)
  /-- ADD r/m16, imm16 (R281). -/
  | addRmImm16 (rm : Rm) (imm : Word)
  /-- ADD r/m16, imm8 (R281). -/
  | addRmImm8 (rm : Rm) (imm : Byte)
  /-- OR r/m16, imm16 (R282). -/
  | orRmImm16 (rm : Rm) (imm : Word)
  /-- OR r/m16, imm8 (R282). -/
  | orRmImm8 (rm : Rm) (imm : Byte)
  /-- ADC r/m16, imm16 (R283). -/
  | adcRmImm16 (rm : Rm) (imm : Word)
  /-- ADC r/m16, imm8 (R283). -/
  | adcRmImm8 (rm : Rm) (imm : Byte)
  /-- SBB r/m16, imm16 (R284). -/
  | sbbRmImm16 (rm : Rm) (imm : Word)
  /-- SBB r/m16, imm8 (R284). -/
  | sbbRmImm8 (rm : Rm) (imm : Byte)
  /-- AND r/m16, imm16 (R285). -/
  | andRmImm16 (rm : Rm) (imm : Word)
  /-- AND r/m16, imm8 (R285). -/
  | andRmImm8 (rm : Rm) (imm : Byte)
  /-- SUB r/m16, imm16 (R286). -/
  | subRmImm16 (rm : Rm) (imm : Word)
  /-- SUB r/m16, imm8 (R286). -/
  | subRmImm8 (rm : Rm) (imm : Byte)
  /-- XOR r/m16, imm16 (R287). -/
  | xorRmImm16 (rm : Rm) (imm : Word)
  /-- XOR r/m16, imm8 (R287). -/
  | xorRmImm8 (rm : Rm) (imm : Byte)
  /-- CMP r/m16, imm16 (R288). -/
  | cmpRmImm16 (rm : Rm) (imm : Word)
  /-- CMP r/m16, imm8 (R288). -/
  | cmpRmImm8 (rm : Rm) (imm : Byte)
  /-- TEST r/m16, r16 (R289). -/
  | testRmR (rm : Rm) (r : Reg)
  /-- TEST r/m16, imm16 (R289). -/
  | testRmImm16 (rm : Rm) (imm : Word)
  /-- INC r16 (R290). -/
  | incR (r : Reg)
  /-- DEC r16 (R291). -/
  | decR (r : Reg)
  /-- PUSH r16 (R279). -/
  | pushR (r : Reg)
  /-- POP r16 (R280). -/
  | popR (r : Reg)
  /-- JO rel8 (R309). -/
  | jo (rel : Byte)
  /-- JNO rel8 (R309). -/
  | jno (rel : Byte)
  /-- JB rel8 (R309). -/
  | jb (rel : Byte)
  /-- JAE rel8 (R309). -/
  | jae (rel : Byte)
  /-- JE rel8 (R309). -/
  | je (rel : Byte)
  /-- JNE rel8 (R309). -/
  | jne (rel : Byte)
  /-- JBE rel8 (R309). -/
  | jbe (rel : Byte)
  /-- JA rel8 (R309). -/
  | ja (rel : Byte)
  /-- JS rel8 (R309). -/
  | js (rel : Byte)
  /-- JNS rel8 (R309). -/
  | jns (rel : Byte)
  /-- JP rel8 (R309). -/
  | jp (rel : Byte)
  /-- JNP rel8 (R309). -/
  | jnp (rel : Byte)
  /-- JL rel8 (R309). -/
  | jl (rel : Byte)
  /-- JGE rel8 (R309). -/
  | jge (rel : Byte)
  /-- JLE rel8 (R309). -/
  | jle (rel : Byte)
  /-- JG rel8 (R309). -/
  | jg (rel : Byte)
  /-- MOV r/m16, r16 (R272). -/
  | movRmR (rm : Rm) (r : Reg)
  /-- MOV r16, r/m16 (R273). -/
  | movRRm (r : Reg) (rm : Rm)
  /-- MOV r/m16, Sreg (R278). -/
  | movRmSreg (rm : Rm) (sr : SregField)
  /-- MOV Sreg, r/m16 (R277). -/
  | movSregRm (sr : SregField) (rm : Rm)
  /-- NOP (R330). -/
  | nop
  /-- MOV AX, moffs16 (R274). -/
  | movAxMoffs (moffs : Word)
  /-- MOV moffs16, AX (R275). -/
  | movMoffsAx (moffs : Word)
  /-- MOV r8, imm8 (R270). -/
  | movR8Imm8 (r : Reg8) (imm : Byte)
  /-- MOV r16, imm16 (R271). -/
  | movRImm16 (r : Reg) (imm : Word)
  /-- SHL r/m16, imm8 (R298). -/
  | shlRmImm8 (rm : Rm) (imm : Byte)
  /-- SHR r/m16, imm8 (R299). -/
  | shrRmImm8 (rm : Rm) (imm : Byte)
  /-- SAR r/m16, imm8 (R300). -/
  | sarRmImm8 (rm : Rm) (imm : Byte)
  /-- RET (R311). -/
  | ret
  /-- MOV r/m16, imm16 (R276). -/
  | movRmImm16 (rm : Rm) (imm : Word)
  /-- INT3 (R314). -/
  | int3
  /-- INT imm8 (R313). -/
  | intImm8 (n : Byte)
  /-- IRET (R315). -/
  | iret
  /-- SHL r/m16, 1 (R298). -/
  | shlRm1 (rm : Rm)
  /-- SHR r/m16, 1 (R299). -/
  | shrRm1 (rm : Rm)
  /-- SAR r/m16, 1 (R300). -/
  | sarRm1 (rm : Rm)
  /-- SHL r/m16, CL (R298). -/
  | shlRmCl (rm : Rm)
  /-- SHR r/m16, CL (R299). -/
  | shrRmCl (rm : Rm)
  /-- SAR r/m16, CL (R300). -/
  | sarRmCl (rm : Rm)
  /-- LOOP rel8 (R312). -/
  | loop (rel : Byte)
  /-- IN AL, imm8 (R326). -/
  | inAlImm8 (port : Byte)
  /-- OUT imm8, AL (R327). -/
  | outImm8Al (port : Byte)
  /-- CALL rel16 (R310). -/
  | callRel16 (rel : Word)
  /-- JMP rel16 (R307). -/
  | jmpRel16 (rel : Word)
  /-- JMP ptr16:16 (R308). -/
  | jmpFar (seg : Word) (off : Word)
  /-- JMP rel8 (R306). -/
  | jmpRel8 (rel : Byte)
  /-- IN AL, DX (R326). -/
  | inAlDx
  /-- IN AX, DX (R326). -/
  | inAxDx
  /-- OUT DX, AL (R327). -/
  | outDxAl
  /-- OUT DX, AX (R327). -/
  | outDxAx
  /-- HLT (R331). -/
  | hlt
  /-- CMC (R318). -/
  | cmc
  /-- NOT r/m16 (R292). -/
  | notRm (rm : Rm)
  /-- NEG r/m16 (R293). -/
  | negRm (rm : Rm)
  /-- MUL r/m16 (R294). -/
  | mulRm (rm : Rm)
  /-- IMUL r/m16 (R295). -/
  | imulRm (rm : Rm)
  /-- DIV r/m16 (R296). -/
  | divRm (rm : Rm)
  /-- IDIV r/m16 (R297). -/
  | idivRm (rm : Rm)
  /-- CLC (R316). -/
  | clc
  /-- STC (R317). -/
  | stc
  /-- CLI (R319). -/
  | cli
  /-- STI (R320). -/
  | sti
  /-- CLD (R321). -/
  | cld
  /-- STD (R322). -/
  | std
  /-- RDTSC (R335). -/
  | rdtsc
deriving DecidableEq, Repr

end Sys2Proof
end

