-- ==== Sys2Proof/WellFormed.lean ====
section
/-! DEFINITION. Which terms of the syntax an encoding exists for (R107). -/

namespace Sys2Proof

/-- `mod` = 00 with `rm` = 110 is a direct offset, so BP alone, with no displacement, has no encoding (R107). -/
def Rm.wellFormed : Rm → Bool
  | .reg _ => true
  | .based .bp .none => false
  | .based _ _ => true
  | .direct _ => true

/-- An instruction is well formed when its memory operand is one R107 can encode. -/
def Instr.wellFormed (i : Instr) : Bool :=
  match i with
  | .addRmR rm _ => rm.wellFormed
  | .addRRm _ rm => rm.wellFormed
  | .orRmR rm _ => rm.wellFormed
  | .orRRm _ rm => rm.wellFormed
  | .adcRmR rm _ => rm.wellFormed
  | .adcRRm _ rm => rm.wellFormed
  | .sbbRmR rm _ => rm.wellFormed
  | .sbbRRm _ rm => rm.wellFormed
  | .andRmR rm _ => rm.wellFormed
  | .andRRm _ rm => rm.wellFormed
  | .subRmR rm _ => rm.wellFormed
  | .subRRm _ rm => rm.wellFormed
  | .xorRmR rm _ => rm.wellFormed
  | .xorRRm _ rm => rm.wellFormed
  | .cmpRmR rm _ => rm.wellFormed
  | .cmpRRm _ rm => rm.wellFormed
  | .addRmImm16 rm _ => rm.wellFormed
  | .addRmImm8 rm _ => rm.wellFormed
  | .orRmImm16 rm _ => rm.wellFormed
  | .orRmImm8 rm _ => rm.wellFormed
  | .adcRmImm16 rm _ => rm.wellFormed
  | .adcRmImm8 rm _ => rm.wellFormed
  | .sbbRmImm16 rm _ => rm.wellFormed
  | .sbbRmImm8 rm _ => rm.wellFormed
  | .andRmImm16 rm _ => rm.wellFormed
  | .andRmImm8 rm _ => rm.wellFormed
  | .subRmImm16 rm _ => rm.wellFormed
  | .subRmImm8 rm _ => rm.wellFormed
  | .xorRmImm16 rm _ => rm.wellFormed
  | .xorRmImm8 rm _ => rm.wellFormed
  | .cmpRmImm16 rm _ => rm.wellFormed
  | .cmpRmImm8 rm _ => rm.wellFormed
  | .testRmR rm _ => rm.wellFormed
  | .testRmImm16 rm _ => rm.wellFormed
  | .movRmR rm _ => rm.wellFormed
  | .movRRm _ rm => rm.wellFormed
  | .movRmSreg rm _ => rm.wellFormed
  | .movSregRm _ rm => rm.wellFormed
  | .shlRmImm8 rm _ => rm.wellFormed
  | .shrRmImm8 rm _ => rm.wellFormed
  | .sarRmImm8 rm _ => rm.wellFormed
  | .movRmImm16 rm _ => rm.wellFormed
  | .shlRm1 rm => rm.wellFormed
  | .shrRm1 rm => rm.wellFormed
  | .sarRm1 rm => rm.wellFormed
  | .shlRmCl rm => rm.wellFormed
  | .shrRmCl rm => rm.wellFormed
  | .sarRmCl rm => rm.wellFormed
  | .notRm rm => rm.wellFormed
  | .negRm rm => rm.wellFormed
  | .mulRm rm => rm.wellFormed
  | .imulRm rm => rm.wellFormed
  | .divRm rm => rm.wellFormed
  | .idivRm rm => rm.wellFormed
  | .extest => true
  | .samplePreload => true
  | .idcode => true
  | .highz => true
  | .bypass => true
  | .addAxImm _ => true
  | .orAxImm _ => true
  | .adcAxImm _ => true
  | .sbbAxImm _ => true
  | .andAxImm _ => true
  | .subAxImm _ => true
  | .xorAxImm _ => true
  | .cmpAxImm _ => true
  | .incR _ => true
  | .decR _ => true
  | .pushR _ => true
  | .popR _ => true
  | .jo _ => true
  | .jno _ => true
  | .jb _ => true
  | .jae _ => true
  | .je _ => true
  | .jne _ => true
  | .jbe _ => true
  | .ja _ => true
  | .js _ => true
  | .jns _ => true
  | .jp _ => true
  | .jnp _ => true
  | .jl _ => true
  | .jge _ => true
  | .jle _ => true
  | .jg _ => true
  | .nop => true
  | .movAxMoffs _ => true
  | .movMoffsAx _ => true
  | .movR8Imm8 _ _ => true
  | .movRImm16 _ _ => true
  | .ret => true
  | .int3 => true
  | .intImm8 _ => true
  | .iret => true
  | .loop _ => true
  | .inAlImm8 _ => true
  | .outImm8Al _ => true
  | .callRel16 _ => true
  | .jmpRel16 _ => true
  | .jmpFar _ _ => true
  | .jmpRel8 _ => true
  | .inAlDx => true
  | .inAxDx => true
  | .outDxAl => true
  | .outDxAx => true
  | .hlt => true
  | .cmc => true
  | .clc => true
  | .stc => true
  | .cli => true
  | .sti => true
  | .cld => true
  | .std => true
  | .rdtsc => true

end Sys2Proof
end

