-- ==== Sys2Proof/Decode.lean ====
section
/-! DEFINITION. The decoder of spec/30_encoding.md, total on any bytes and on any TAP code, and after it
the encoder written from the same tables. -/

namespace Sys2Proof

/-- What the decoder answers: an instruction and the bytes after it; a refusal by name (R118); or that
the instruction needs more bytes (R108). -/
inductive Decoded where
  | instr (i : Instr) (rest : List Byte)
  | refused (n : RefusedEncoding)
  | more
deriving DecidableEq, Repr

/-! ### Field tables (R107, R110) -/

def Reg.ofCode : Nat → Reg
  | 0 => .ax | 1 => .cx | 2 => .dx | 3 => .bx | 4 => .sp | 5 => .bp | 6 => .si | _ => .di

def Reg.code : Reg → BitVec 3
  | .ax => 0 | .cx => 1 | .dx => 2 | .bx => 3 | .sp => 4 | .bp => 5 | .si => 6 | .di => 7

def Reg8.ofCode : Nat → Reg8
  | 0 => .al | 1 => .cl | 2 => .dl | 3 => .bl | 4 => .ah | 5 => .ch | 6 => .dh | _ => .bh

def Reg8.code : Reg8 → BitVec 3
  | .al => 0 | .cl => 1 | .dl => 2 | .bl => 3 | .ah => 4 | .ch => 5 | .dh => 6 | .bh => 7

def SregField.ofCode : Nat → SregField
  | 0 => .seg .es | 1 => .seg .cs | 2 => .seg .ss | 3 => .seg .ds | 4 => .seg .fs | 5 => .seg .gs
  | 6 => .six | _ => .seven

def SregField.code : SregField → BitVec 3
  | .seg .es => 0 | .seg .cs => 1 | .seg .ss => 2 | .seg .ds => 3 | .seg .fs => 4 | .seg .gs => 5
  | .six => 6 | .seven => 7

def EaBase.ofCode : Nat → EaBase
  | 0 => .bxSi | 1 => .bxDi | 2 => .bpSi | 3 => .bpDi | 4 => .si | 5 => .di | 6 => .bp | _ => .bx

def EaBase.code : EaBase → BitVec 3
  | .bxSi => 0 | .bxDi => 1 | .bpSi => 2 | .bpDi => 3 | .si => 4 | .di => 5 | .bp => 6 | .bx => 7

/-! ### Operand parsers: each takes the bytes it needs and hands on the rest, or asks for more -/

/-- Take one byte. -/
def takeByte (bs : List Byte) (k : Byte → List Byte → Decoded) : Decoded :=
  match bs with
  | [] => .more
  | b :: rest => k b rest

/-- Take two bytes, low byte first (R109). -/
def takeWord (bs : List Byte) (k : Word → List Byte → Decoded) : Decoded :=
  match bs with
  | lo :: hi :: rest => k (Machine.joinBytes lo hi) rest
  | _ => .more

/-- What the `reg` field of ModRM selects: an operation that goes on with the r/m operand, or a
refusal, which is answered before any displacement byte is taken (R108, R113). -/
inductive RegArm where
  | refuse (n : RefusedEncoding)
  | take (k : Rm → List Byte → Decoded)

/-- Take a ModRM byte and its displacement (R107). -/
def takeModRm (bs : List Byte) (arm : Nat → RegArm) : Decoded :=
  takeByte bs fun m rest =>
    match arm (m.extractLsb' 3 3).toNat with
    | .refuse n => .refused n
    | .take k =>
      let rm := (m.extractLsb' 0 3).toNat
      match (m.extractLsb' 6 2).toNat with
      | 0 => if rm = 6 then takeWord rest fun d => k (.direct d) else k (.based (EaBase.ofCode rm) .none) rest
      | 1 => takeByte rest fun d => k (.based (EaBase.ofCode rm) (.d8 d))
      | 2 => takeWord rest fun d => k (.based (EaBase.ofCode rm) (.d16 d))
      | _ => k (.reg (Reg.ofCode rm)) rest

/-! ### Formats (R106) -/

/-- `OP_M` with a register in the `reg` field. -/
def formM (bs : List Byte) (f : Rm → Reg → Instr) : Decoded :=
  takeModRm bs fun g => .take fun rm rest => .instr (f rm (Reg.ofCode g)) rest

/-- `OP_M` with a segment register number in the `reg` field. -/
def formSreg (bs : List Byte) (f : Rm → SregField → Instr) : Decoded :=
  takeModRm bs fun g => .take fun rm rest => .instr (f rm (SregField.ofCode g)) rest

/-- `OP_I8`. -/
def formI8 (bs : List Byte) (f : Byte → Instr) : Decoded :=
  takeByte bs fun b rest => .instr (f b) rest

/-- `OP_I16`. -/
def formI16 (bs : List Byte) (f : Word → Instr) : Decoded :=
  takeWord bs fun w rest => .instr (f w) rest

/-! A group member: `OP_M`, `OP_M_I8`, `OP_M_I16` with an operation in the `reg` field. -/

def armM (f : Rm → Instr) : RegArm := .take fun rm rest => .instr (f rm) rest

def armMI8 (f : Rm → Byte → Instr) : RegArm :=
  .take fun rm bs => takeByte bs fun b rest => .instr (f rm b) rest

def armMI16 (f : Rm → Word → Instr) : RegArm :=
  .take fun rm bs => takeWord bs fun w rest => .instr (f rm w) rest

/-! ### Groups (R113) -/

def group81 : Nat → RegArm
  | 0 => armMI16 .addRmImm16
  | 1 => armMI16 .orRmImm16
  | 2 => armMI16 .adcRmImm16
  | 3 => armMI16 .sbbRmImm16
  | 4 => armMI16 .andRmImm16
  | 5 => armMI16 .subRmImm16
  | 6 => armMI16 .xorRmImm16
  | _ => armMI16 .cmpRmImm16

def group83 : Nat → RegArm
  | 0 => armMI8 .addRmImm8
  | 1 => armMI8 .orRmImm8
  | 2 => armMI8 .adcRmImm8
  | 3 => armMI8 .sbbRmImm8
  | 4 => armMI8 .andRmImm8
  | 5 => armMI8 .subRmImm8
  | 6 => armMI8 .xorRmImm8
  | _ => armMI8 .cmpRmImm8

def groupC1 : Nat → RegArm
  | 4 => armMI8 .shlRmImm8
  | 5 => armMI8 .shrRmImm8
  | 7 => armMI8 .sarRmImm8
  | _ => .refuse .rotateOrSalAlias

def groupD1 : Nat → RegArm
  | 4 => armM .shlRm1
  | 5 => armM .shrRm1
  | 7 => armM .sarRm1
  | _ => .refuse .rotateOrSalAlias

def groupD3 : Nat → RegArm
  | 4 => armM .shlRmCl
  | 5 => armM .shrRmCl
  | 7 => armM .sarRmCl
  | _ => .refuse .rotateOrSalAlias

def groupC7 : Nat → RegArm
  | 0 => armMI16 .movRmImm16
  | _ => .refuse .groupUndefinedSlot

def groupF7 : Nat → RegArm
  | 0 => armMI16 .testRmImm16
  | 1 => .refuse .groupUndefinedSlot
  | 2 => armM .notRm
  | 3 => armM .negRm
  | 4 => armM .mulRm
  | 5 => armM .imulRm
  | 6 => armM .divRm
  | _ => armM .idivRm

/-! ### The one-byte opcode map (R112) and the refusal list (R118) -/

/-- The name under which R118 refuses a first byte that R112 does not admit. -/
def refusalName (b : Byte) : RefusedEncoding :=
  match b with
  | 0x26#8 | 0x2E#8 | 0x36#8 | 0x3E#8 | 0x64#8 | 0x65#8 => .prefixSegmentOverride
  | 0x66#8 | 0x67#8 => .prefixOperandOrAddressSize
  | 0xF0#8 => .prefixLock
  | 0xF2#8 | 0xF3#8 => .prefixRep
  | 0x00#8 | 0x02#8 | 0x04#8 | 0x08#8 | 0x0A#8 | 0x0C#8 | 0x10#8 | 0x12#8 | 0x14#8 | 0x18#8 | 0x1A#8 | 0x1C#8
  | 0x20#8 | 0x22#8 | 0x24#8 | 0x28#8 | 0x2A#8 | 0x2C#8 | 0x30#8 | 0x32#8 | 0x34#8 | 0x38#8 | 0x3A#8 | 0x3C#8
  | 0x80#8 | 0x82#8 | 0x84#8 | 0x86#8 | 0x88#8 | 0x8A#8 | 0xA0#8 | 0xA2#8 | 0xA8#8 | 0xC0#8 | 0xC6#8 | 0xD0#8
  | 0xD2#8 | 0xF6#8 | 0xFE#8 => .alu8OrMov8Form
  | 0x06#8 | 0x07#8 | 0x0E#8 | 0x16#8 | 0x17#8 | 0x1E#8 | 0x1F#8 => .pushPopSegment
  | 0x27#8 | 0x2F#8 | 0x37#8 | 0x3F#8 | 0xD4#8 | 0xD5#8 => .bcdAdjust
  | 0x60#8 | 0x61#8 | 0x62#8 | 0x63#8 | 0x68#8 | 0x69#8 | 0x6A#8 | 0x6B#8 => .i186I286Forms
  | 0x6C#8 | 0x6D#8 | 0x6E#8 | 0x6F#8 | 0xA4#8 | 0xA5#8 | 0xA6#8 | 0xA7#8 | 0xAA#8 | 0xAB#8 | 0xAC#8 | 0xAD#8
  | 0xAE#8 | 0xAF#8 => .stringInstruction
  | 0x87#8 | 0x91#8 | 0x92#8 | 0x93#8 | 0x94#8 | 0x95#8 | 0x96#8 | 0x97#8 => .xchg
  | 0x8D#8 => .lea
  | 0x8F#8 | 0xFF#8 => .group1aOr5
  | 0x98#8 | 0x99#8 => .cbwCwd
  | 0x9A#8 | 0xCA#8 | 0xCB#8 => .farCallOrFarReturn
  | 0x9B#8 | 0xD8#8 | 0xD9#8 | 0xDA#8 | 0xDB#8 | 0xDC#8 | 0xDD#8 | 0xDE#8 | 0xDF#8 => .x87
  | 0x9C#8 | 0x9D#8 | 0x9E#8 | 0x9F#8 => .pushfPopfSahfLahf
  | 0xA9#8 => .testAccImm
  | 0xC2#8 => .retImm16
  | 0xC4#8 | 0xC5#8 => .lesLds
  | 0xC8#8 | 0xC9#8 => .enterLeave
  | 0xCE#8 => .into
  | 0xD6#8 | 0xD7#8 | 0xF1#8 => .salcXlatIcebp
  | 0xE0#8 | 0xE1#8 | 0xE3#8 => .loopccJcxz
  | 0xE5#8 | 0xE7#8 => .inOutAxImm8
  | _ => .twoByteOpcode

/-- The instruction whose first byte is `b`, from the bytes `bs` that follow it. -/
def decodeOpcode (b : Byte) (bs : List Byte) : Decoded :=
  match b with
  | 0x01#8 => formM bs .addRmR
  | 0x03#8 => formM bs fun rm r => .addRRm r rm
  | 0x05#8 => formI16 bs .addAxImm
  | 0x09#8 => formM bs .orRmR
  | 0x0B#8 => formM bs fun rm r => .orRRm r rm
  | 0x0D#8 => formI16 bs .orAxImm
  | 0x11#8 => formM bs .adcRmR
  | 0x13#8 => formM bs fun rm r => .adcRRm r rm
  | 0x15#8 => formI16 bs .adcAxImm
  | 0x19#8 => formM bs .sbbRmR
  | 0x1B#8 => formM bs fun rm r => .sbbRRm r rm
  | 0x1D#8 => formI16 bs .sbbAxImm
  | 0x21#8 => formM bs .andRmR
  | 0x23#8 => formM bs fun rm r => .andRRm r rm
  | 0x25#8 => formI16 bs .andAxImm
  | 0x29#8 => formM bs .subRmR
  | 0x2B#8 => formM bs fun rm r => .subRRm r rm
  | 0x2D#8 => formI16 bs .subAxImm
  | 0x31#8 => formM bs .xorRmR
  | 0x33#8 => formM bs fun rm r => .xorRRm r rm
  | 0x35#8 => formI16 bs .xorAxImm
  | 0x39#8 => formM bs .cmpRmR
  | 0x3B#8 => formM bs fun rm r => .cmpRRm r rm
  | 0x3D#8 => formI16 bs .cmpAxImm
  | 0x0F#8 => takeByte bs fun b2 rest =>
      if b2 = 0x31#8 then .instr .rdtsc rest else .refused .twoByteOpcode
  | 0x40#8 | 0x41#8 | 0x42#8 | 0x43#8 | 0x44#8 | 0x45#8 | 0x46#8 | 0x47#8 => .instr (.incR (Reg.ofCode (b.extractLsb' 0 3).toNat)) bs
  | 0x48#8 | 0x49#8 | 0x4A#8 | 0x4B#8 | 0x4C#8 | 0x4D#8 | 0x4E#8 | 0x4F#8 => .instr (.decR (Reg.ofCode (b.extractLsb' 0 3).toNat)) bs
  | 0x50#8 | 0x51#8 | 0x52#8 | 0x53#8 | 0x54#8 | 0x55#8 | 0x56#8 | 0x57#8 => .instr (.pushR (Reg.ofCode (b.extractLsb' 0 3).toNat)) bs
  | 0x58#8 | 0x59#8 | 0x5A#8 | 0x5B#8 | 0x5C#8 | 0x5D#8 | 0x5E#8 | 0x5F#8 => .instr (.popR (Reg.ofCode (b.extractLsb' 0 3).toNat)) bs
  | 0x70#8 => formI8 bs .jo
  | 0x71#8 => formI8 bs .jno
  | 0x72#8 => formI8 bs .jb
  | 0x73#8 => formI8 bs .jae
  | 0x74#8 => formI8 bs .je
  | 0x75#8 => formI8 bs .jne
  | 0x76#8 => formI8 bs .jbe
  | 0x77#8 => formI8 bs .ja
  | 0x78#8 => formI8 bs .js
  | 0x79#8 => formI8 bs .jns
  | 0x7A#8 => formI8 bs .jp
  | 0x7B#8 => formI8 bs .jnp
  | 0x7C#8 => formI8 bs .jl
  | 0x7D#8 => formI8 bs .jge
  | 0x7E#8 => formI8 bs .jle
  | 0x7F#8 => formI8 bs .jg
  | 0x81#8 => takeModRm bs group81
  | 0x83#8 => takeModRm bs group83
  | 0x85#8 => formM bs .testRmR
  | 0x89#8 => formM bs .movRmR
  | 0x8B#8 => formM bs fun rm r => .movRRm r rm
  | 0x8C#8 => formSreg bs .movRmSreg
  | 0x8E#8 => formSreg bs fun rm sr => .movSregRm sr rm
  | 0x90#8 => .instr .nop bs
  | 0xA1#8 => formI16 bs .movAxMoffs
  | 0xA3#8 => formI16 bs .movMoffsAx
  | 0xB0#8 | 0xB1#8 | 0xB2#8 | 0xB3#8 | 0xB4#8 | 0xB5#8 | 0xB6#8 | 0xB7#8 => formI8 bs (.movR8Imm8 (Reg8.ofCode (b.extractLsb' 0 3).toNat))
  | 0xB8#8 | 0xB9#8 | 0xBA#8 | 0xBB#8 | 0xBC#8 | 0xBD#8 | 0xBE#8 | 0xBF#8 => formI16 bs (.movRImm16 (Reg.ofCode (b.extractLsb' 0 3).toNat))
  | 0xC1#8 => takeModRm bs groupC1
  | 0xC3#8 => .instr .ret bs
  | 0xC7#8 => takeModRm bs groupC7
  | 0xCC#8 => .instr .int3 bs
  | 0xCD#8 => formI8 bs .intImm8
  | 0xCF#8 => .instr .iret bs
  | 0xD1#8 => takeModRm bs groupD1
  | 0xD3#8 => takeModRm bs groupD3
  | 0xE2#8 => formI8 bs .loop
  | 0xE4#8 => formI8 bs .inAlImm8
  | 0xE6#8 => formI8 bs .outImm8Al
  | 0xE8#8 => formI16 bs .callRel16
  | 0xE9#8 => formI16 bs .jmpRel16
  | 0xEA#8 => takeWord bs fun off bs => takeWord bs fun seg rest => .instr (.jmpFar seg off) rest
  | 0xEB#8 => formI8 bs .jmpRel8
  | 0xEC#8 => .instr .inAlDx bs
  | 0xED#8 => .instr .inAxDx bs
  | 0xEE#8 => .instr .outDxAl bs
  | 0xEF#8 => .instr .outDxAx bs
  | 0xF4#8 => .instr .hlt bs
  | 0xF5#8 => .instr .cmc bs
  | 0xF7#8 => takeModRm bs groupF7
  | 0xF8#8 => .instr .clc bs
  | 0xF9#8 => .instr .stc bs
  | 0xFA#8 => .instr .cli bs
  | 0xFB#8 => .instr .sti bs
  | 0xFC#8 => .instr .cld bs
  | 0xFD#8 => .instr .std bs
  | _ => .refused (refusalName b)

/-- Decode the bytes of an x86 instruction, lowest address first (R108). -/
def decodeBytes : List Byte → Decoded
  | [] => .more
  | b :: bs => decodeOpcode b bs

/-- The instruction an IR code names; `none` for a code that is none of the five (R101, R246). -/
def decodeIr (p : Machine.TapCodes) (c : List Bool) : Option Instr :=
  if c = p.extest then some .extest
  else if c = p.sample then some .samplePreload
  else if c = p.idcode then some .idcode
  else if c = p.highz then some .highz
  else if c = p.bypass then some .bypass
  else none

/-! ### The encoder -/

/-- ModRM and displacement of an r/m operand, `g` being the `reg` field (R107). -/
def encodeRm (g : BitVec 3) : Rm → List Byte
  | .reg r => [0b11#2 ++ g ++ r.code]
  | .direct d => [0b00#2 ++ g ++ 0b110#3, Machine.loByte d, Machine.hiByte d]
  | .based b .none => [0b00#2 ++ g ++ b.code]
  | .based b (.d8 v) => [0b01#2 ++ g ++ b.code, v]
  | .based b (.d16 v) => [0b10#2 ++ g ++ b.code, Machine.loByte v, Machine.hiByte v]

/-- A 16-bit field, low byte first (R109). -/
def encodeWord (v : Word) : List Byte := [Machine.loByte v, Machine.hiByte v]

/-- The words of an instruction: bytes of the x86 part, or a code of the TAP's instruction register. -/
inductive Encoding where
  | bytes (bs : List Byte)
  | irCode (c : List Bool)
deriving DecidableEq, Repr

/-- The words of an instruction, the TAP's codes being those of `p` (R101). -/
def encode (p : Machine.TapCodes) (i : Instr) : Encoding :=
  match i with
  | .extest => .irCode p.extest
  | .samplePreload => .irCode p.sample
  | .idcode => .irCode p.idcode
  | .highz => .irCode p.highz
  | .bypass => .irCode p.bypass
  | .addRmR rm r => .bytes (0x01#8 :: encodeRm r.code rm)
  | .addRRm r rm => .bytes (0x03#8 :: encodeRm r.code rm)
  | .addAxImm imm => .bytes (0x05#8 :: encodeWord imm)
  | .orRmR rm r => .bytes (0x09#8 :: encodeRm r.code rm)
  | .orRRm r rm => .bytes (0x0B#8 :: encodeRm r.code rm)
  | .orAxImm imm => .bytes (0x0D#8 :: encodeWord imm)
  | .adcRmR rm r => .bytes (0x11#8 :: encodeRm r.code rm)
  | .adcRRm r rm => .bytes (0x13#8 :: encodeRm r.code rm)
  | .adcAxImm imm => .bytes (0x15#8 :: encodeWord imm)
  | .sbbRmR rm r => .bytes (0x19#8 :: encodeRm r.code rm)
  | .sbbRRm r rm => .bytes (0x1B#8 :: encodeRm r.code rm)
  | .sbbAxImm imm => .bytes (0x1D#8 :: encodeWord imm)
  | .andRmR rm r => .bytes (0x21#8 :: encodeRm r.code rm)
  | .andRRm r rm => .bytes (0x23#8 :: encodeRm r.code rm)
  | .andAxImm imm => .bytes (0x25#8 :: encodeWord imm)
  | .subRmR rm r => .bytes (0x29#8 :: encodeRm r.code rm)
  | .subRRm r rm => .bytes (0x2B#8 :: encodeRm r.code rm)
  | .subAxImm imm => .bytes (0x2D#8 :: encodeWord imm)
  | .xorRmR rm r => .bytes (0x31#8 :: encodeRm r.code rm)
  | .xorRRm r rm => .bytes (0x33#8 :: encodeRm r.code rm)
  | .xorAxImm imm => .bytes (0x35#8 :: encodeWord imm)
  | .cmpRmR rm r => .bytes (0x39#8 :: encodeRm r.code rm)
  | .cmpRRm r rm => .bytes (0x3B#8 :: encodeRm r.code rm)
  | .cmpAxImm imm => .bytes (0x3D#8 :: encodeWord imm)
  | .addRmImm16 rm imm => .bytes (0x81#8 :: encodeRm 0 rm ++ encodeWord imm)
  | .addRmImm8 rm imm => .bytes (0x83#8 :: encodeRm 0 rm ++ [imm])
  | .orRmImm16 rm imm => .bytes (0x81#8 :: encodeRm 1 rm ++ encodeWord imm)
  | .orRmImm8 rm imm => .bytes (0x83#8 :: encodeRm 1 rm ++ [imm])
  | .adcRmImm16 rm imm => .bytes (0x81#8 :: encodeRm 2 rm ++ encodeWord imm)
  | .adcRmImm8 rm imm => .bytes (0x83#8 :: encodeRm 2 rm ++ [imm])
  | .sbbRmImm16 rm imm => .bytes (0x81#8 :: encodeRm 3 rm ++ encodeWord imm)
  | .sbbRmImm8 rm imm => .bytes (0x83#8 :: encodeRm 3 rm ++ [imm])
  | .andRmImm16 rm imm => .bytes (0x81#8 :: encodeRm 4 rm ++ encodeWord imm)
  | .andRmImm8 rm imm => .bytes (0x83#8 :: encodeRm 4 rm ++ [imm])
  | .subRmImm16 rm imm => .bytes (0x81#8 :: encodeRm 5 rm ++ encodeWord imm)
  | .subRmImm8 rm imm => .bytes (0x83#8 :: encodeRm 5 rm ++ [imm])
  | .xorRmImm16 rm imm => .bytes (0x81#8 :: encodeRm 6 rm ++ encodeWord imm)
  | .xorRmImm8 rm imm => .bytes (0x83#8 :: encodeRm 6 rm ++ [imm])
  | .cmpRmImm16 rm imm => .bytes (0x81#8 :: encodeRm 7 rm ++ encodeWord imm)
  | .cmpRmImm8 rm imm => .bytes (0x83#8 :: encodeRm 7 rm ++ [imm])
  | .testRmR rm r => .bytes (0x85#8 :: encodeRm r.code rm)
  | .testRmImm16 rm imm => .bytes (0xF7#8 :: encodeRm 0 rm ++ encodeWord imm)
  | .incR r => .bytes [0b01000#5 ++ r.code]
  | .decR r => .bytes [0b01001#5 ++ r.code]
  | .pushR r => .bytes [0b01010#5 ++ r.code]
  | .popR r => .bytes [0b01011#5 ++ r.code]
  | .jo rel => .bytes [0x70#8, rel]
  | .jno rel => .bytes [0x71#8, rel]
  | .jb rel => .bytes [0x72#8, rel]
  | .jae rel => .bytes [0x73#8, rel]
  | .je rel => .bytes [0x74#8, rel]
  | .jne rel => .bytes [0x75#8, rel]
  | .jbe rel => .bytes [0x76#8, rel]
  | .ja rel => .bytes [0x77#8, rel]
  | .js rel => .bytes [0x78#8, rel]
  | .jns rel => .bytes [0x79#8, rel]
  | .jp rel => .bytes [0x7A#8, rel]
  | .jnp rel => .bytes [0x7B#8, rel]
  | .jl rel => .bytes [0x7C#8, rel]
  | .jge rel => .bytes [0x7D#8, rel]
  | .jle rel => .bytes [0x7E#8, rel]
  | .jg rel => .bytes [0x7F#8, rel]
  | .movRmR rm r => .bytes (0x89#8 :: encodeRm r.code rm)
  | .movRRm r rm => .bytes (0x8B#8 :: encodeRm r.code rm)
  | .movRmSreg rm sr => .bytes (0x8C#8 :: encodeRm sr.code rm)
  | .movSregRm sr rm => .bytes (0x8E#8 :: encodeRm sr.code rm)
  | .nop => .bytes [0x90#8]
  | .movAxMoffs moffs => .bytes (0xA1#8 :: encodeWord moffs)
  | .movMoffsAx moffs => .bytes (0xA3#8 :: encodeWord moffs)
  | .movR8Imm8 r imm => .bytes [0b10110#5 ++ r.code, imm]
  | .movRImm16 r imm => .bytes ((0b10111#5 ++ r.code) :: encodeWord imm)
  | .shlRmImm8 rm imm => .bytes (0xC1#8 :: encodeRm 4 rm ++ [imm])
  | .shrRmImm8 rm imm => .bytes (0xC1#8 :: encodeRm 5 rm ++ [imm])
  | .sarRmImm8 rm imm => .bytes (0xC1#8 :: encodeRm 7 rm ++ [imm])
  | .ret => .bytes [0xC3#8]
  | .movRmImm16 rm imm => .bytes (0xC7#8 :: encodeRm 0 rm ++ encodeWord imm)
  | .int3 => .bytes [0xCC#8]
  | .intImm8 n => .bytes [0xCD#8, n]
  | .iret => .bytes [0xCF#8]
  | .shlRm1 rm => .bytes (0xD1#8 :: encodeRm 4 rm)
  | .shrRm1 rm => .bytes (0xD1#8 :: encodeRm 5 rm)
  | .sarRm1 rm => .bytes (0xD1#8 :: encodeRm 7 rm)
  | .shlRmCl rm => .bytes (0xD3#8 :: encodeRm 4 rm)
  | .shrRmCl rm => .bytes (0xD3#8 :: encodeRm 5 rm)
  | .sarRmCl rm => .bytes (0xD3#8 :: encodeRm 7 rm)
  | .loop rel => .bytes [0xE2#8, rel]
  | .inAlImm8 port => .bytes [0xE4#8, port]
  | .outImm8Al port => .bytes [0xE6#8, port]
  | .callRel16 rel => .bytes (0xE8#8 :: encodeWord rel)
  | .jmpRel16 rel => .bytes (0xE9#8 :: encodeWord rel)
  | .jmpFar seg off => .bytes (0xEA#8 :: encodeWord off ++ encodeWord seg)
  | .jmpRel8 rel => .bytes [0xEB#8, rel]
  | .inAlDx => .bytes [0xEC#8]
  | .inAxDx => .bytes [0xED#8]
  | .outDxAl => .bytes [0xEE#8]
  | .outDxAx => .bytes [0xEF#8]
  | .hlt => .bytes [0xF4#8]
  | .cmc => .bytes [0xF5#8]
  | .notRm rm => .bytes (0xF7#8 :: encodeRm 2 rm)
  | .negRm rm => .bytes (0xF7#8 :: encodeRm 3 rm)
  | .mulRm rm => .bytes (0xF7#8 :: encodeRm 4 rm)
  | .imulRm rm => .bytes (0xF7#8 :: encodeRm 5 rm)
  | .divRm rm => .bytes (0xF7#8 :: encodeRm 6 rm)
  | .idivRm rm => .bytes (0xF7#8 :: encodeRm 7 rm)
  | .clc => .bytes [0xF8#8]
  | .stc => .bytes [0xF9#8]
  | .cli => .bytes [0xFA#8]
  | .sti => .bytes [0xFB#8]
  | .cld => .bytes [0xFC#8]
  | .std => .bytes [0xFD#8]
  | .rdtsc => .bytes [0x0F#8, 0x31#8]

/-- The bytes of an x86 instruction; none for a TAP instruction, which is not fetched (R100). -/
def Instr.bytes (i : Instr) : List Byte :=
  match encode .expected i with
  | .bytes bs => bs
  | .irCode _ => []

/-- The length in bytes: `next_ip - pc` (R41, R108). -/
def Instr.length (i : Instr) : Nat := i.bytes.length

/-! ### The host's view of the opcode table -/

/-- The longest instruction has six bytes (R105). -/
def tableBytes (nbits w : Nat) : List Byte :=
  (List.range 6).map fun k => BitVec.ofNat 8 ((w % 2 ^ nbits) / 2 ^ (8 * k))

/-- A table word as a code of the instruction register, with the expected codes the table prints (R120): a
row of fewer than eight bits is a TAP row; a one-byte word that no x86 row has is read as the TAP row it
equals. -/
def tableIr (nbits w : Nat) : Option Instr :=
  if nbits ≤ 8 ∧ w < 32 then decodeIr .expected (Machine.bitsOf 5 w) else none

/-- What the decoder reads from a table word. -/
def decodeTableWord (nbits w : Nat) : Option Instr :=
  if nbits < 8 then tableIr nbits w
  else
    match decodeBytes (tableBytes nbits w) with
    | .instr i _ => some i
    | _ => tableIr nbits w

end Sys2Proof
end

