-- ==== Sys2Proof/Machine/Pins.lean ====
section
/-! DEFINITION. The signals of spec/40_signals_and_pins.md (R131, R132) as plain data. -/

namespace Sys2Proof.Machine

/-- The electrical level of one pin: low, high, or floated (R14's `Z`). -/
inductive Level where
  | z | low | high
deriving DecidableEq, Repr, Inhabited

/-- What one side puts on a bus of `w` pins: nothing (floated), or a value, 1 being electrically high. -/
inductive Drive (w : Nat) where
  | z
  | driven (v : BitVec w)
deriving DecidableEq, Repr, Inhabited

/-- The input pins other than TCK, TDI and TMS (R132, direction I). -/
inductive InPin where
  | a20m | ahold | bf0 | bf1 | bf2 | boff | brdy | brdyc | clk | eads | ewbe | flush | hold
  | ignne | init | intr | inv | ken | na | nmi | reset | smi | stpclk | trst | wbwt
deriving DecidableEq, Repr

/-- The input pins the platform may change (R132, R170): all but AHOLD, BOFF#, HOLD, EADS# and INV, by which
another master takes the bus. R170 gives the platform no such move, so these five stay negated. -/
inductive HostPin where
  | a20m | bf0 | bf1 | bf2 | brdy | brdyc | clk | ewbe | flush | ignne | init | intr | ken | na | nmi
  | reset | smi | stpclk | trst | wbwt
deriving DecidableEq, Repr

/-- The one-bit output pins the core drives (R132, direction O). -/
inductive OutPin where
  | ads | adsc | apchk | breq | cache | dc | ferr | hit | hitm | hlda | lock | mio | pcd | pchk
  | pwt | scyc | smiact | wr
deriving DecidableEq, Repr

/-- One pin of the package that a boundary-scan cell can be tied to (R27). DESIGN CHOICE (log 31): the spec
leaves open whether TCK, TDI and TMS have cells, and this type cannot name them; TRST# it can. -/
inductive PinBit where
  | inp (p : InPin)
  | out (p : OutPin)
  | be (i : Fin 8)
  | a (i : Fin 29)
  | ap
  | d (i : Fin 64)
  | dp (i : Fin 8)
deriving DecidableEq, Repr

/-- The input side of the pin record (R20). A field is the LOGICAL value of R14: true means
asserted, and electrically high for the two-meaning signal WB/WT#. -/
structure InPins where
  a20m : Bool
  ahold : Bool
  bf0 : Bool
  bf1 : Bool
  bf2 : Bool
  boff : Bool
  brdy : Bool
  brdyc : Bool
  clk : Bool
  eads : Bool
  ewbe : Bool
  flush : Bool
  hold : Bool
  ignne : Bool
  init : Bool
  intr : Bool
  inv : Bool
  ken : Bool
  na : Bool
  nmi : Bool
  reset : Bool
  smi : Bool
  stpclk : Bool
  trst : Bool
  wbwt : Bool
  tck : Bool
  tdi : Bool
  tms : Bool
deriving DecidableEq, Repr

/-- What the platform puts on the bidirectional pins (R132, direction I/O); A[31:3] is bits 28:0. -/
structure BusIn where
  a : Drive 29
  ap : Level
  d : Drive 64
  dp : Drive 8
deriving DecidableEq, Repr

/-- What the core puts on its output and bidirectional pins: electrical levels, or floated (R20, R22).
TDO belongs to the TAP; VCC2DET and VCC2H/L# are constants (R145). -/
structure CoreOut where
  ads : Level
  adsc : Level
  apchk : Level
  breq : Level
  cache : Level
  dc : Level
  ferr : Level
  hit : Level
  hitm : Level
  hlda : Level
  lock : Level
  mio : Level
  pcd : Level
  pchk : Level
  pwt : Level
  scyc : Level
  smiact : Level
  wr : Level
  be : Drive 8
  a : Drive 29
  ap : Level
  d : Drive 64
  dp : Drive 8
deriving DecidableEq, Repr, Inhabited

/-- A boundary-scan cell (R27, R241): the data cell of one pin, or a control cell that lets the pins
it governs be driven when it holds `driveWhen` and floats them otherwise. -/
inductive BsrCell where
  | data (p : PinBit)
  | control (governs : List PinBit) (driveWhen : Bool)
deriving DecidableEq, Repr

end Sys2Proof.Machine
end

