-- ==== Sys2Proof/Config.lean ====
section
/-! DEFINITION. What an implementation fixes, and the values the spec leaves free.
The open parameters of R11 (PlatformMem, the TAP codes, BSR_MAP, DIR_VALUE, CPU_SIGNATURE) are data of the state
instead (`Board` in Machine/State.lean), so that claims quantify over them. -/

namespace Sys2Proof.Config

/-- The free values: `draw n` is the n-th `draw` of a run (R15, R262). Nothing is known of it. -/
opaque draw (n : Nat) : BitVec 64

/-- The levels on the core's outputs after its n-th activity: the spec gives no function (R20, R414). -/
opaque coreOut (n : Nat) : Machine.CoreOut

/-- The constant, unspecified level of VCC2DET (R145). -/
opaque vcc2det : Bool

/-- The constant, unspecified level of VCC2H/L# (R145). -/
opaque vcc2hl : Bool

end Sys2Proof.Config
end

