-- ==== Sys2Proof/Machine/State.lean ====
section
/-! DEFINITION. The state of the machine (spec/10_state.md), as plain data, the reasons a step can stop,
and the state after reset (spec/70_reset_and_hazards.md R410). -/

namespace Sys2Proof.Machine

/-! ### Processor core -/

/-- The eight 32-bit general registers (R40). -/
structure Gpr where
  eax : Dword
  ecx : Dword
  edx : Dword
  ebx : Dword
  esp : Dword
  ebp : Dword
  esi : Dword
  edi : Dword
deriving DecidableEq, Repr

/-- The hidden attributes of a segment register (R43, R410). -/
structure SegAttrs where
  present : Bool
  readable : Bool
  writable : Bool
  executable : Bool
  accessed : Bool
deriving DecidableEq, Repr

/-- A segment register: visible selector, hidden base, limit and attributes (R43). -/
structure SegReg where
  sel : Word
  base : Dword
  limit : Dword
  attrs : SegAttrs
deriving DecidableEq, Repr

/-- EFLAGS (R42), one field for each bit that is not fixed: bit 1 reads 1, and bits 3, 5, 15 and 31:22
read 0. `Eflags.bits` in Machine/Ops.lean is the 32-bit register. -/
structure Eflags where
  cf : Bool
  pf : Bool
  af : Bool
  zf : Bool
  sf : Bool
  tf : Bool
  intf : Bool
  df : Bool
  ovf : Bool
  iopl : BitVec 2
  nt : Bool
  rf : Bool
  vm : Bool
  ac : Bool
  vif : Bool
  vip : Bool
  idf : Bool
deriving DecidableEq, Repr

/-- The six segment registers (R43). -/
structure Sregs where
  es : SegReg
  cs : SegReg
  ss : SegReg
  ds : SegReg
  fs : SegReg
  gs : SegReg
deriving DecidableEq, Repr

/-- GDTR and IDTR (R45). -/
structure TableReg where
  base : Dword
  limit : Word
deriving DecidableEq, Repr

/-- LDTR and TR (R45). PRESUMED (log 11): their limit is 32 bits wide, as in the family; the spec gives its reset
value FFFFh alone. -/
structure SystemSeg where
  sel : Word
  base : Dword
  limit : Dword
deriving DecidableEq, Repr

/-- Control, table and debug registers (R44 to R46). -/
structure SysRegs where
  cr0 : Dword
  cr2 : Dword
  cr3 : Dword
  cr4 : Dword
  gdtr : TableReg
  idtr : TableReg
  ldtr : SystemSeg
  tr : SystemSeg
  dr0 : Dword
  dr1 : Dword
  dr2 : Dword
  dr3 : Dword
  dr6 : Dword
  dr7 : Dword
deriving DecidableEq, Repr

/-- The x87 registers; MM0 to MM7 are the low 64 bits of ST0 to ST7 (R47). -/
structure Fpu where
  st0 : BitVec 80
  st1 : BitVec 80
  st2 : BitVec 80
  st3 : BitVec 80
  st4 : BitVec 80
  st5 : BitVec 80
  st6 : BitVec 80
  st7 : BitVec 80
  control : Word
  status : Word
  tag : Word
  instrPointer : BitVec 48
  operandPointer : BitVec 48
deriving DecidableEq, Repr

/-- The model-specific registers (R49); the time stamp counter stands in the state itself. -/
structure Msrs where
  mcar : BitVec 64
  mctr : BitVec 64
  tr12 : BitVec 64
  efer : BitVec 64
  star : BitVec 64
  whcr : BitVec 64
  uwccr : BitVec 64
  psor : BitVec 64
  pfir : BitVec 64
deriving DecidableEq, Repr

/-- The run state (R51); Stop Grant keeps whether the core was halted when it was entered (R387). `stuck` is
the core whose access the platform did not answer: it makes no further step until RESET (R74, R75). -/
inductive RunState where
  | running
  | halted
  | stopGrant (fromHalted : Bool)
  | shutdown
  | stuck
deriving DecidableEq, Repr

/-- `int_shadow` with the instruction that set it: NMI looks at the cause (R56, R382). `spent` is
`int_shadow` = 0 after a load of SS that drew 0: the run of loads goes on (R277). -/
inductive Shadow where
  | none
  | sti
  | movSs
  | spent
deriving DecidableEq, Repr

/-- The hidden latches of R56 and the FLUSH# latch of R386. -/
structure Latches where
  shadow : Shadow
  nmiPending : Bool
  nmiBlocked : Bool
  initPending : Bool
  smiPending : Bool
  flushPending : Bool
  a20Mask : Bool
deriving DecidableEq, Repr

/-! ### TAP test logic -/

/-- The sixteen controller states (R25). -/
inductive TapCtl where
  | testLogicReset | runTestIdle
  | selectDr | captureDr | shiftDr | exit1Dr | pauseDr | exit2Dr | updateDr
  | selectIr | captureIr | shiftIr | exit1Ir | pauseIr | exit2Ir | updateIr
deriving DecidableEq, Repr

/-- The TAP state (R24). Bit `i` of an instruction-register or boundary-scan stage is element `i` of its
list: their lengths are parameters (R11). -/
structure Tap where
  ctl : TapCtl
  irShift : List Bool
  irOut : List Bool
  bsrShift : List Bool
  bsrOut : List Bool
  /-- Whether an Update-DR has loaded `bsrOut` since power-up or RESET: the mark R35 and R241 need to tell a
  run that drives its pins from an unwritten register. -/
  bsrLoaded : Bool
  br : Bool
  dir : Dword
  tdo : Level
  /-- EXTEST or HIGHZ has taken the pins: the core needs a RESET (R240, R241). -/
  coreNeedsReset : Bool
deriving DecidableEq, Repr

/-! ### Pins, platform, schedule -/

/-- The pin record (R20). -/
structure Pins where
  inp : InPins
  bus : BusIn
  out : CoreOut
deriving DecidableEq, Repr

/-- What the platform does with a write that nothing takes: R75 leaves it to the parameter, the default
being that the core is stuck. -/
inductive StrayWrite where
  | stuck | ignored
deriving DecidableEq, Repr

/-- What a region of physical memory is (`PlatformMem`, R11 and decision D6). -/
inductive RegionKind where
  | ram
  | rom (write : StrayWrite)
  | volatile
  | nothing (write : StrayWrite)
deriving DecidableEq, Repr

/-- `size` bytes of physical memory from `base` on. -/
structure Region where
  base : Nat
  size : Nat
  kind : RegionKind
deriving DecidableEq, Repr

/-- `size` ports from `base` on that nothing answers, so a read there sticks the core (R74, R76). -/
structure PortHole where
  base : Nat
  size : Nat
  write : StrayWrite
deriving DecidableEq, Repr

/-- The spec's open parameters (R11) as data no step changes: PlatformMem (the first region that holds
an address decides, RAM where none does; the first hole that holds a port, an answer where none does), the
TAP's codes, BSR_MAP with BSR_LEN its length, DIR_VALUE, CPU_SIGNATURE. -/
structure Board where
  memMap : List Region
  portHoles : List PortHole
  ir : TapCodes
  bsrMap : List BsrCell
  dirValue : Dword
  cpuSignature : Dword
deriving DecidableEq, Repr

/-- What the platform sees besides its own memory: I/O accesses (R76), accesses to volatile regions
(R86) and writes that nothing takes (R75), the interrupt acknowledge (R381) and special cycles (R372, R386,
R387). An I/O access is one entry with each port it covers and that port's byte. -/
inductive Seen where
  | ioRead (bytes : List (Word × Byte))
  | ioWrite (bytes : List (Word × Byte))
  | memRead (addr : Nat) (v : Byte)
  | memWrite (addr : Nat) (v : Byte)
  | intAck (vector : Byte)
  | shutdownCycle
  | flushAck
  | stopGrantCycle
deriving DecidableEq, Repr

/-- A test input at a rising edge of TCK: at a level, driven by nothing, or changing there, so that its
setup or hold time is broken (R225). -/
inductive Sample where
  | level (b : Bool)
  | undriven
  | unstable
deriving DecidableEq, Repr

/-- Who moves next (R12). `core` is one step of the core. `tck` is one TCK period with the sampled TMS
and TDI and the other pins that are changing at its rising edge (R225, R242). The others drive pins. -/
inductive Move where
  | core
  | tck (tms tdi : Sample) (changing : List PinBit)
  | drive (p : HostPin) (asserted : Bool)
  | driveA (v : Drive 29)
  | driveAp (v : Level)
  | driveD (v : Drive 64)
  | driveDp (v : Drive 8)
deriving DecidableEq, Repr

/-! ### Reasons to stop -/

/-- The model faults: the spec names each, and each is safe (the model stops where the part goes on or
where the spec says the core makes no further step). -/
inductive Fault where
  /-- A read of a memory byte that was never written nor preloaded (R58, R74). Safe. -/
  | readUnwritten (addr : Nat)
  /-- A fetch of a byte stored since the last taken control transfer (R90). Safe. -/
  | staleFetch (addr : Nat)
  /-- An instruction byte, or a `next_ip` that is used, past offset FFFFh (R41, R108). Safe. -/
  | fetchPastLimit
deriving DecidableEq, Repr

/-- The refusals: each ends a run with no claim about the part, so each is safe. -/
inductive Refusal where
  /-- An instruction that has no meaning yet; raised by `exec` alone. Safe. -/
  | notModelled (mnemonic : String)
  /-- An encoding outside the subset, by its name in R118; raised by the fetch. Safe. -/
  | encoding (n : RefusedEncoding)
  /-- TF is set at the end of an instruction (R265, R364). Safe. -/
  | debugTrap
  /-- An SMI would be taken (R384). Safe. -/
  | smmEntry
  /-- NMI or SMI# while shut down (R372). Safe. -/
  | shutdownEvent
  /-- FLUSH# low at the falling edge of RESET selects the Tri-State Test mode (R165, R412). Safe. -/
  | triStateTest
  /-- A core step while EXTEST or HIGHZ is in force (R240). Safe. -/
  | pinsOverridden
  /-- A core step after EXTEST or HIGHZ and before RESET (R241, R244). Safe. -/
  | resetRequired
  /-- A core step outside real-address mode (R50, R81). Safe. -/
  | notRealMode
deriving DecidableEq, Repr

/-- The whole machine. -/
structure State where
  gpr : Gpr
  eip : Dword
  eflags : Eflags
  sreg : Sregs
  sys : SysRegs
  fpu : Fpu
  msr : Msrs
  /-- The time stamp counter as last read (R48). -/
  tsc : BitVec 64
  /-- The SMM latch (R50). -/
  smm : Bool
  run : RunState
  latch : Latches
  /-- BF[2:0] as sampled at the end of RESET (R412). -/
  bfRatio : BitVec 3
  /-- `dirty_code` (R90): physical addresses, strictly rising. -/
  dirty : List Nat
  /-- Physical memory: the bytes that have a value, addresses strictly rising. -/
  mem : List Host.Cell
  tap : Tap
  pins : Pins
  /-- The model's own: which free value comes next. -/
  draws : Nat
  /-- The model's own: who moves next, first element first. -/
  schedule : List Move
  /-- The model's own: what the platform will answer reads with, first element first. -/
  answers : List Word
  /-- The model's own: what the platform has seen, oldest first. -/
  trace : List Seen
  /-- The spec's open parameters. -/
  board : Board
deriving DecidableEq, Repr

/-! ### After reset (R410) -/

def Gpr.reset (signature : Dword) : Gpr :=
  { eax := 0, ecx := 0, edx := signature, ebx := 0, esp := 0, ebp := 0, esi := 0, edi := 0 }

/-- 00000002h: every flag 0 (R42). -/
def Eflags.reset : Eflags :=
  { cf := false, pf := false, af := false, zf := false, sf := false, tf := false, intf := false
    df := false, ovf := false, iopl := 0, nt := false, rf := false, vm := false, ac := false
    vif := false, vip := false, idf := false }

/-- SS, DS, ES, FS, GS after RESET. -/
def SegReg.resetData : SegReg :=
  { sel := 0, base := 0, limit := 0xFFFF
    attrs := { present := true, readable := true, writable := true, executable := false, accessed := true } }

/-- CS after RESET: its base is not its selector times 16 (R43). DEDUCED (log 12): it is not writable, as R410's list
for CS leaves that out, though R79 calls every segment writable; no access looks at it. -/
def SegReg.resetCode : SegReg :=
  { sel := 0xF000, base := 0xFFFF0000, limit := 0xFFFF
    attrs := { present := true, readable := true, writable := false, executable := true, accessed := true } }

def Sregs.reset : Sregs :=
  { es := SegReg.resetData, cs := SegReg.resetCode, ss := SegReg.resetData
    ds := SegReg.resetData, fs := SegReg.resetData, gs := SegReg.resetData }

def SysRegs.reset : SysRegs :=
  { cr0 := 0x60000010, cr2 := 0, cr3 := 0, cr4 := 0
    gdtr := { base := 0, limit := 0xFFFF }, idtr := { base := 0, limit := 0xFFFF }
    ldtr := { sel := 0, base := 0, limit := 0xFFFF }, tr := { sel := 0, base := 0, limit := 0xFFFF }
    dr0 := 0, dr1 := 0, dr2 := 0, dr3 := 0, dr6 := 0xFFFF0FF0, dr7 := 0x00000400 }

def Fpu.reset : Fpu :=
  { st0 := 0, st1 := 0, st2 := 0, st3 := 0, st4 := 0, st5 := 0, st6 := 0, st7 := 0
    control := 0x0040, status := 0x0000, tag := 0x5555, instrPointer := 0, operandPointer := 0 }

def Msrs.reset : Msrs :=
  { mcar := 0, mctr := 0, tr12 := 0, efer := 0, star := 0, whcr := 0, uwccr := 0, psor := 0, pfir := 0 }

def Latches.reset (a20m : Bool) : Latches :=
  { shadow := .none, nmiPending := false, nmiBlocked := false, initPending := false
    smiPending := false, flushPending := false, a20Mask := a20m }

def InPins.atReset : InPins :=
  { a20m := false, ahold := false, bf0 := false, bf1 := false, bf2 := false, boff := false
    brdy := false, brdyc := false, clk := false, eads := false, ewbe := false, flush := false
    hold := false, ignne := false, init := false, intr := false, inv := false, ken := false
    na := false, nmi := false, reset := false, smi := false, stpclk := false, trst := false
    wbwt := false, tck := false, tdi := false, tms := true }

def CoreOut.floated : CoreOut :=
  { ads := .z, adsc := .z, apchk := .z, breq := .z, cache := .z, dc := .z, ferr := .z, hit := .z
    hitm := .z, hlda := .z, lock := .z, mio := .z, pcd := .z, pchk := .z, pwt := .z, scyc := .z
    smiact := .z, wr := .z, be := .z, a := .z, ap := .z, d := .z, dp := .z }

def Pins.reset : Pins :=
  { inp := InPins.atReset, bus := { a := .z, ap := .z, d := .z, dp := .z }, out := CoreOut.floated }

/-- The boundary-scan map State.reset takes, since BSR_MAP is open (R11): one data cell for each
signal pin of R132 (R241 excludes TDO, VCC2DET, VCC2H/L#), no control cell. DESIGN CHOICE (log 31): it
leaves out TRST#, as `PinBit` leaves out TCK, TDI and TMS, where the spec does not say. -/
def Board.defaultMap : List BsrCell :=
  ([InPin.a20m, .ahold, .bf0, .bf1, .bf2, .boff, .brdy, .brdyc, .clk, .eads, .ewbe, .flush, .hold,
    .ignne, .init, .intr, .inv, .ken, .na, .nmi, .reset, .smi, .stpclk, .wbwt].map
      fun p => BsrCell.data (.inp p)) ++
  ([OutPin.ads, .adsc, .apchk, .breq, .cache, .dc, .ferr, .hit, .hitm, .hlda, .lock, .mio, .pcd,
    .pchk, .pwt, .scyc, .smiact, .wr].map fun p => BsrCell.data (.out p)) ++
  ((List.finRange 8).map fun i => BsrCell.data (.be i)) ++
  ((List.finRange 29).map fun i => BsrCell.data (.a i)) ++ [BsrCell.data .ap] ++
  ((List.finRange 64).map fun i => BsrCell.data (.d i)) ++
  ((List.finRange 8).map fun i => BsrCell.data (.dp i))

def Board.default : Board :=
  { memMap := [], portHoles := [], ir := TapCodes.expected, bsrMap := Board.defaultMap
    dirValue := 0x00580003, cpuSignature := 0x00000580 }

/-- R34, for the codes `ir` and a boundary-scan chain of `len` cells. -/
def Tap.reset (ir : TapCodes) (len : Nat) : Tap :=
  { ctl := .testLogicReset, irShift := List.replicate ir.len false, irOut := ir.idcode
    bsrShift := List.replicate len false, bsrOut := List.replicate len false, bsrLoaded := false
    br := false, dir := 0, tdo := .z, coreNeedsReset := false }

/-- The machine right after reset (R410): no move scheduled, nothing in memory. -/
def State.reset : State :=
  { gpr := Gpr.reset Board.default.cpuSignature
    eip := 0x0000FFF0
    eflags := Eflags.reset
    sreg := Sregs.reset
    sys := SysRegs.reset
    fpu := Fpu.reset
    msr := Msrs.reset
    tsc := 0
    smm := false
    run := .running
    latch := Latches.reset false
    bfRatio := 0
    dirty := []
    mem := []
    tap := Tap.reset TapCodes.expected Board.defaultMap.length
    pins := Pins.reset
    draws := 0
    schedule := []
    answers := []
    trace := []
    board := Board.default }

end Sys2Proof.Machine
end

