-- ==== Sys2Proof/Machine/Ops.lean ====
section
/-! DEFINITION. The named operations over registers, memory, ports and free values; taking an exception
and returning from one. Each is written once here and used by every meaning. -/

namespace Sys2Proof.Machine

/-! ### Computations that may stop -/

/-- The exceptions an instruction or a trap entry can raise (R341, R362). -/
inductive Exc where
  | de | ud | ss | gp
deriving DecidableEq, Repr

/-- The vector of an exception (R362). -/
def Exc.vector : Exc → Byte
  | .de => 0
  | .ud => 6
  | .ss => 12
  | .gp => 13

/-- The contributory class of R370. -/
def Exc.contributory : Exc → Bool
  | .de => true
  | .ud => false
  | .ss => true
  | .gp => true

/-- Why a computation stopped. A raised exception carries the state it was raised in: no register or
memory write of the instruction is in it (R260), only what the platform has already answered. -/
inductive Stop where
  | raise (e : Exc) (s : State)
  /-- An access the platform does not answer: it has no step, and the core is stuck there (R74, R75). -/
  | stuck (s : State)
  | fault (f : Fault)
  | refused (r : Refusal)

/-- A part of a step: it reads and changes the state, or stops. -/
abbrev M := StateT State (Except Stop)

/-- `raise e` of R15. -/
def raise {α : Type} (e : Exc) : M α := fun s => .error (.raise e s)

/-- `fault(reason)` of R15. -/
def stopFault {α : Type} (f : Fault) : M α := fun _ => .error (.fault f)

/-- `refuse(reason)` of R15. -/
def stopRefused {α : Type} (r : Refusal) : M α := fun _ => .error (.refused r)

/-- Go on where `b` holds, and stick where it does not (R74, R75). -/
def need (b : State → Bool) : M Unit := fun s => if b s then .ok ((), s) else .error (.stuck s)

/-- Read a part of the state. -/
def view {α : Type} (f : State → α) : M α := fun s => .ok (f s, s)

/-- Change the state. -/
def update (f : State → State) : M Unit := fun s => .ok ((), f s)

/-- The core makes no further step: only RESET, which acts at any point, ends that (R74, R75, R385). -/
def State.stick (s : State) : State := { s with run := .stuck }

/-- The outcome of a step whose computation ended as `r`: `ok` and `raised` say what follows an answer and an
exception. -/
def conclude {α : Type} (r : Except Stop (α × State)) (ok : α → State → Host.Outcome State Fault Refusal)
    (raised : Exc → State → Host.Outcome State Fault Refusal) : Host.Outcome State Fault Refusal :=
  match r with
  | .ok (a, t) => ok a t
  | .error (.raise e t) => raised e t
  | .error (.stuck t) => .next t.stick
  | .error (.fault f) => .fault f
  | .error (.refused r) => .refused r

/-! ### General registers (R40) -/

/-- `r32[i]`, indexed by the name of its low half. -/
def State.r32 (s : State) : Reg → Dword
  | .ax => s.gpr.eax
  | .cx => s.gpr.ecx
  | .dx => s.gpr.edx
  | .bx => s.gpr.ebx
  | .sp => s.gpr.esp
  | .bp => s.gpr.ebp
  | .si => s.gpr.esi
  | .di => s.gpr.edi

def State.setR32 (s : State) (r : Reg) (v : Dword) : State :=
  match r with
  | .ax => { s with gpr := { s.gpr with eax := v } }
  | .cx => { s with gpr := { s.gpr with ecx := v } }
  | .dx => { s with gpr := { s.gpr with edx := v } }
  | .bx => { s with gpr := { s.gpr with ebx := v } }
  | .sp => { s with gpr := { s.gpr with esp := v } }
  | .bp => { s with gpr := { s.gpr with ebp := v } }
  | .si => { s with gpr := { s.gpr with esi := v } }
  | .di => { s with gpr := { s.gpr with edi := v } }

/-- `r16[i]`: bits 15:0. -/
def State.r16 (s : State) (r : Reg) : Word := low16 (s.r32 r)

/-- A write to `r16[i]` leaves bits 31:16 as they were. -/
def State.setR16 (s : State) (r : Reg) (v : Word) : State := s.setR32 r (putLow16 (s.r32 r) v)

/-- The 32-bit register that holds an 8-bit one, and whether it holds it in bits 15:8. -/
def homeOf : Reg8 → Reg × Bool
  | .al => (.ax, false)
  | .cl => (.cx, false)
  | .dl => (.dx, false)
  | .bl => (.bx, false)
  | .ah => (.ax, true)
  | .ch => (.cx, true)
  | .dh => (.dx, true)
  | .bh => (.bx, true)

/-- `r8[i]`. -/
def State.r8 (s : State) (r : Reg8) : Byte :=
  if (homeOf r).2 then hiByte (s.r16 (homeOf r).1) else loByte (s.r16 (homeOf r).1)

/-- A write to `r8[i]` leaves the other 24 bits as they were. -/
def State.setR8 (s : State) (r : Reg8) (v : Byte) : State :=
  if (homeOf r).2 then s.setR32 (homeOf r).1 (putByte1 (s.r32 (homeOf r).1) v)
  else s.setR32 (homeOf r).1 (putByte0 (s.r32 (homeOf r).1) v)

/-- IP: EIP[15:0] (R41). -/
def State.ip (s : State) : Word := low16 s.eip

/-- `pc <- v`: EIP[31:16] is zero in the subset (R41). -/
def State.setIp (s : State) (v : Word) : State := { s with eip := zext32 v }

/-! ### Segment registers (R43) -/

def State.seg (s : State) : Sreg → SegReg
  | .es => s.sreg.es
  | .cs => s.sreg.cs
  | .ss => s.sreg.ss
  | .ds => s.sreg.ds
  | .fs => s.sreg.fs
  | .gs => s.sreg.gs

/-- The real-address-mode load of one segment register: selector and base, nothing else (R43). -/
def SegReg.load (g : SegReg) (v : Word) : SegReg := { g with sel := v, base := selBase v }

def State.loadSeg (s : State) (r : Sreg) (v : Word) : State :=
  match r with
  | .es => { s with sreg := { s.sreg with es := s.sreg.es.load v } }
  | .cs => { s with sreg := { s.sreg with cs := s.sreg.cs.load v } }
  | .ss => { s with sreg := { s.sreg with ss := s.sreg.ss.load v } }
  | .ds => { s with sreg := { s.sreg with ds := s.sreg.ds.load v } }
  | .fs => { s with sreg := { s.sreg with fs := s.sreg.fs.load v } }
  | .gs => { s with sreg := { s.sreg with gs := s.sreg.gs.load v } }

/-! ### EFLAGS (R42) -/

/-- The flags an instruction of the subset or a rule of the spec names. -/
inductive Flag where
  | cf | pf | af | zf | sf | tf | intf | df | ovf | ac
deriving DecidableEq, Repr

def State.flag (s : State) : Flag → Bool
  | .cf => s.eflags.cf
  | .pf => s.eflags.pf
  | .af => s.eflags.af
  | .zf => s.eflags.zf
  | .sf => s.eflags.sf
  | .tf => s.eflags.tf
  | .intf => s.eflags.intf
  | .df => s.eflags.df
  | .ovf => s.eflags.ovf
  | .ac => s.eflags.ac

def State.setFlag (s : State) (f : Flag) (b : Bool) : State :=
  match f with
  | .cf => { s with eflags := { s.eflags with cf := b } }
  | .pf => { s with eflags := { s.eflags with pf := b } }
  | .af => { s with eflags := { s.eflags with af := b } }
  | .zf => { s with eflags := { s.eflags with zf := b } }
  | .sf => { s with eflags := { s.eflags with sf := b } }
  | .tf => { s with eflags := { s.eflags with tf := b } }
  | .intf => { s with eflags := { s.eflags with intf := b } }
  | .df => { s with eflags := { s.eflags with df := b } }
  | .ovf => { s with eflags := { s.eflags with ovf := b } }
  | .ac => { s with eflags := { s.eflags with ac := b } }

/-- FLAGS, bit 0 first: each flag in its place and the fixed bits as they read (R42). -/
def Eflags.low (e : Eflags) : List Bool :=
  [e.cf, true, e.pf, false, e.af, false, e.zf, e.sf, e.tf, e.intf, e.df, e.ovf,
    e.iopl.getLsbD 0, e.iopl.getLsbD 1, e.nt, false]

/-- EFLAGS[31:16], bit 16 first (R42). -/
def Eflags.high (e : Eflags) : List Bool :=
  [e.rf, e.vm, e.ac, e.vif, e.vip, e.idf, false, false, false, false, false, false, false, false, false, false]

/-- FLAGS: EFLAGS[15:0]. -/
def Eflags.bits16 (e : Eflags) : Word := BitVec.ofBoolListLE e.low

/-- EFLAGS, all 32 bits. -/
def Eflags.bits (e : Eflags) : Dword := BitVec.ofBoolListLE (e.low ++ e.high)

/-- A write of EFLAGS[15:0]: the fixed bits do not take part and bits 31:16 stay (R42, R315). -/
def Eflags.load16 (e : Eflags) (v : Word) : Eflags :=
  { e with
    cf := v.getLsbD 0
    pf := v.getLsbD 2
    af := v.getLsbD 4
    zf := v.getLsbD 6
    sf := v.getLsbD 7
    tf := v.getLsbD 8
    intf := v.getLsbD 9
    df := v.getLsbD 10
    ovf := v.getLsbD 11
    iopl := v.extractLsb' 12 2
    nt := v.getLsbD 14 }

/-- The FLAGS word a trap entry pushes. -/
def State.flags16 (s : State) : Word := s.eflags.bits16

/-! ### Free values and the platform's answers -/

/-- Whether the n-th free value, read as one bit, is set. -/
def drawBitAt (n : Nat) : Bool := (Config.draw n).getLsbD 0

/-- `draw(1)` (R15, R262). -/
def drawBit : M Bool := fun s => .ok (drawBitAt s.draws, { s with draws := s.draws + 1 })

/-- `draw(64)` (R15). -/
def drawWide : M (BitVec 64) := fun s => .ok (Config.draw s.draws, { s with draws := s.draws + 1 })

/-- The platform's next answer: the head of `answers`, or a free value where none is scheduled. -/
def takeAnswer : M Word := fun s =>
  match s.answers with
  | v :: rest => .ok (v, { s with answers := rest })
  | [] => .ok ((Config.draw s.draws).setWidth 16, { s with draws := s.draws + 1 })

/-- The platform sees `e`. -/
def State.see (s : State) (e : Seen) : State := { s with trace := s.trace ++ [e] }

/-! ### Memory (R71, R74, R75) -/

/-- The byte at an address, or none where nothing was ever written (R58). -/
def Memory.get : List Host.Cell → Nat → Option Byte
  | [], _ => none
  | (b, v) :: rest, a => if a = b then some v else Memory.get rest a

/-- Store one byte and keep the addresses strictly rising. -/
def Memory.set : List Host.Cell → Nat → Byte → List Host.Cell
  | [], a, v => [(a, v)]
  | (b, w) :: rest, a, v =>
    if a < b then (a, v) :: (b, w) :: rest
    else if a = b then (a, v) :: rest
    else (b, w) :: Memory.set rest a v

/-- Every address of the list lies above `a`, and they rise strictly. -/
def Memory.risingFrom : Nat → List Host.Cell → Bool
  | _, [] => true
  | a, (b, _) :: rest => a < b && Memory.risingFrom b rest

/-- The addresses of the list rise strictly. -/
def Memory.rising : List Host.Cell → Bool
  | [] => true
  | (a, _) :: rest => Memory.risingFrom a rest

/-- The canonical form: strictly rising addresses of the 2^32-byte space (R71). An unlisted address has
no value, so no entry can equal it. -/
def Memory.wf (m : List Host.Cell) : Bool := Memory.rising m && m.all fun c => decide (c.1 < 2 ^ 32)

/-- What PlatformMem has at an address: the first region that holds it, RAM where none does (R11, D6). -/
def Board.kindAt (b : Board) (a : Nat) : RegionKind :=
  match b.memMap.find? fun r => decide (r.base ≤ a ∧ a < r.base + r.size) with
  | some r => r.kind
  | none => .ram

/-- Whether something answers a read (R74). -/
def RegionKind.answersRead : RegionKind → Bool
  | .ram => true
  | .rom _ => true
  | .volatile => true
  | .nothing _ => false

/-- Whether a write completes; where nothing takes it that is the platform's parameter (R75). -/
def RegionKind.acceptsWrite : RegionKind → Bool
  | .ram => true
  | .rom w => decide (w = .ignored)
  | .volatile => true
  | .nothing w => decide (w = .ignored)

/-- The hole a port lies in, if any (R76). -/
def Board.holeAt (b : Board) (port : Word) : Option PortHole :=
  b.portHoles.find? fun h => decide (h.base ≤ port.toNat ∧ port.toNat < h.base + h.size)

/-- Whether a port answers a read (R74, R76). -/
def Board.portAnswers (b : Board) (port : Word) : Bool := (b.holeAt port).isNone

/-- Whether a write to a port completes (R75, R76). -/
def Board.portAccepts (b : Board) (port : Word) : Bool :=
  match b.holeAt port with
  | none => true
  | some h => decide (h.write = .ignored)

/-- The physical address of a linear one: bit 20 is cleared while `a20_mask` is set (R74, R78). -/
def State.phys (s : State) (lin : Dword) : Nat :=
  (if s.latch.a20Mask then setBit lin 20 false else lin).toNat

/-- Something answers a read of the byte at a linear address (R74). -/
def State.answered (s : State) (lin : Dword) : Bool := (s.board.kindAt (s.phys lin)).answersRead

/-- A write of the byte at a linear address completes (R75). -/
def State.accepted (s : State) (lin : Dword) : Bool := (s.board.kindAt (s.phys lin)).acceptsWrite

/-- A byte RAM or ROM holds (R58). -/
def readHeld (a : Nat) : M Byte := do
  match ← view fun s => Memory.get s.mem a with
  | some v => return v
  | none => stopFault (.readUnwritten a)

/-- One byte of `MemRead` (R74), from a volatile region a value of the platform's (R86). -/
def readByte (lin : Dword) : M Byte := do
  need fun s => s.answered lin
  let a ← view fun s => s.phys lin
  match ← view fun s => s.board.kindAt a with
  | .volatile => do
    let v ← takeAnswer
    update fun s => s.see (.memRead a (loByte v))
    return loByte v
  | .ram => readHeld a
  | .rom _ => readHeld a
  | .nothing _ => readHeld a

/-- Put one byte into memory and into `dirty_code` (R75, R90). -/
def State.poke (s : State) (a : Nat) (v : Byte) : State :=
  { s with mem := Memory.set s.mem a v, dirty := setInsert s.dirty a }

/-- A byte the platform takes or drops, and the model's memory does not hold: it is seen, and it joins
`dirty_code` as any byte written does (R90, log 41). -/
def State.handOver (s : State) (a : Nat) (v : Byte) : State :=
  { s.see (.memWrite a v) with dirty := setInsert s.dirty a }

/-- One byte of `MemWrite` (R75, decision D6): every byte written joins `dirty_code` (R90). -/
def writeByte (lin : Dword) (v : Byte) : M Unit := do
  need fun s => s.accepted lin
  let a ← view fun s => s.phys lin
  match ← view fun s => s.board.kindAt a with
  | .ram => update fun s => s.poke a v
  | .rom _ => update fun s => s.handOver a v
  | .volatile => update fun s => s.handOver a v
  | .nothing _ => update fun s => s.handOver a v

/-- `MemRead(lin, 2)` (R74, R77). Where a byte of it is not answered the access has no step at all. -/
def readWord (lin : Dword) : M Word := do
  need fun s => s.answered lin && s.answered (lin + 1)
  let lo ← readByte lin
  let hi ← readByte (lin + 1)
  return joinBytes lo hi

/-- `MemWrite(lin, 2, v)` (R75, R77): both bytes in one step, or none where one of them does not complete. -/
def writeWord (lin : Dword) (v : Word) : M Unit := do
  need fun s => s.accepted lin && s.accepted (lin + 1)
  writeByte lin (loByte v)
  writeByte (lin + 1) (hiByte v)

/-- The linear address of an offset in a segment (R78). -/
def State.linear (s : State) (r : Sreg) (off : Word) : Dword := (s.seg r).base + zext32 off

/-- The exception of a failed limit check (R79). -/
def limitExc (r : Sreg) : Exc := if r = .ss then .ss else .gp

/-- Whether `n` bytes at `off` lie within the segment (R79). -/
def State.inLimit (s : State) (r : Sreg) (off : Word) (n : Nat) : Bool :=
  decide (off.toNat + n - 1 ≤ (s.seg r).limit.toNat)

/-- The limit check of R79. -/
def checkLimit (r : Sreg) (off : Word) (n : Nat) : M Unit := do
  if ← view fun s => s.inLimit r off n then return () else raise (limitExc r)

/-! ### Ports (R76) -/

/-- The ports an access of `n` bytes covers, `port + k` taken modulo 2^16. -/
def portsFrom (port : Word) (n : Nat) : List Word := (List.range n).map fun k => port + BitVec.ofNat 16 k

/-- Each port of an access with its byte, byte `k` of the value at `port + k` (R77). -/
def portBytes (port : Word) (n : Nat) (v : Word) : List (Word × Byte) :=
  (List.range n).map fun k => (port + BitVec.ofNat 16 k, v.extractLsb' (8 * k) 8)

/-- `IoRead(port, n)`: the platform's answer, `n` = 1 or 2 bytes of it. -/
def ioRead (port : Word) (n : Nat) : M Word := do
  need fun s => (portsFrom port n).all s.board.portAnswers
  let v ← takeAnswer
  let w := if n = 1 then v &&& 0x00FF else v
  update fun s => s.see (.ioRead (portBytes port n w))
  return w

/-- `IoWrite(port, n, v)`. -/
def ioWrite (port : Word) (n : Nat) (v : Word) : M Unit := do
  need fun s => (portsFrom port n).all s.board.portAccepts
  update fun s => s.see (.ioWrite (portBytes port n v))

/-! ### The stack (R264) -/

/-- The slot a push stores to, `k` items below SP. -/
def State.slotBelow (s : State) (k : Nat) : Word := s.r16 .sp - BitVec.ofNat 16 (2 * k)

/-- The slot a pop reads, `k` items above SP. -/
def State.slotAbove (s : State) (k : Nat) : Word := s.r16 .sp + BitVec.ofNat 16 (2 * k)

/-- `Push16(v)`. -/
def push16 (v : Word) : M Unit := do
  let t ← view fun s => s.slotBelow 1
  checkLimit .ss t 2
  writeWord (← view fun s => s.linear .ss t) v
  update fun s => s.setR16 .sp t

/-- The check and the read of `Pop16()`; SP moves in `dropStack`, so that RET can check its target first (R311). -/
def peek16 : M Word := do
  let t ← view fun s => s.slotAbove 0
  checkLimit .ss t 2
  readWord (← view fun s => s.linear .ss t)

/-- `SP <- (SP + 2k) mod 2^16`. -/
def dropStack (k : Nat) : M Unit := update fun s => s.setR16 .sp (s.slotAbove k)

/-- `Pop16()`. -/
def pop16 : M Word := do
  let v ← peek16
  dropStack 1
  return v

/-! ### Ends of an instruction (R265) -/

/-- `int_shadow` takes its value for the next instruction boundary (R265). -/
def State.setShadow (s : State) (h : Shadow) : State := { s with latch := { s.latch with shadow := h } }

/-- A completed instruction, or with TF set the refusal of R364. -/
def complete (s : State) : Host.Outcome State Fault Refusal :=
  if s.flag .tf then .refused .debugTrap else .next s

/-- `next_ip` (R41). It has 17 bits in the spec, and the model uses it only where `pastLimit` is false, or in
the sum of R305, which is modulo 2^16. -/
def State.nextIp (s : State) (i : Instr) : Word := s.ip + BitVec.ofNat 16 i.length

/-- Whether `next_ip` exceeds FFFFh (R41, R108). -/
def State.pastLimit (s : State) (i : Instr) : Bool := decide (0xFFFF < s.ip.toNat + i.length)

/-- `next_ip` as an instruction saves it: past FFFFh it faults and does not wrap (R41, R108). -/
def savedIp (i : Instr) : M Word := do
  if ← view fun s => s.pastLimit i then stopFault .fetchPastLimit else view fun s => s.nextIp i

/-- A taken control transfer (R265, R305). -/
def State.jump (s : State) (target : Word) : State :=
  { (s.setIp target).setShadow .none with dirty := [] }

/-- The check of R305: a target past the limit raises GP with nothing changed. -/
def checkTarget (target : Word) : M Unit := do
  if ← view fun s => s.inLimit .cs target 1 then return () else raise .gp

/-! ### Taking an exception, and the return from one -/

/-- The state R366 leaves, once the three words are stored: the flags, CS, pc, run state and latches. -/
def State.enterHandler (s : State) (sp : Word) (seg off : Word) : State :=
  let t := (((s.setR16 .sp sp).setFlag .intf false).setFlag .tf false).setFlag .ac false
  { (t.loadSeg .cs seg).jump off with run := .running }

/-- Trap entry in real-address mode (R366): vector `n`, saved IP `rip`. DESIGN CHOICE (log 41): where the second or
third store is one that nothing takes, the words stored before it stay in memory and in `dirty_code` of the stuck
core; R75 and R366 do not say. -/
def trapEntry (n : Byte) (rip : Word) : M Unit := do
  let idtr ← view fun s => s.sys.idtr
  if 4 * n.toNat + 3 > idtr.limit.toNat then raise .gp else
  let t0 ← view fun s => s.slotBelow 1
  let t1 ← view fun s => s.slotBelow 2
  let t2 ← view fun s => s.slotBelow 3
  checkLimit .ss t0 2
  checkLimit .ss t1 2
  checkLimit .ss t2 2
  let vec := idtr.base + BitVec.ofNat 32 (4 * n.toNat)
  let off ← readWord vec
  let seg ← readWord (vec + 2)
  let fl ← view State.flags16
  let cs ← view fun s => (s.seg .cs).sel
  let stack ← view fun s => s.linear .ss
  writeWord (stack t0) fl
  writeWord (stack t1) cs
  writeWord (stack t2) rip
  update fun s => s.enterHandler t2 seg off

/-- The shutdown state, entered with its special bus cycle (R372). -/
def State.shutDown (s : State) : State := { s.see .shutdownCycle with run := .shutdown }

/-- Deliver an event (R366): vector `n`, saved IP `rip`. A first entry that fails is followed by a second
one, with vector 8 after a contributory fault and with the new exception's own otherwise (R370); a
second that fails shuts the core down (R372). -/
def deliver (n : Byte) (contributory : Bool) (rip : Word) (s : State) : Host.Outcome State Fault Refusal :=
  conclude (trapEntry n rip s) (fun _ t => .next t) fun e t =>
    conclude (trapEntry (if contributory then 8 else e.vector) rip t) (fun _ u => .next u) fun _ u =>
      .next u.shutDown

/-- A fault of an instruction: the saved IP is the instruction's own (R361, R368). -/
def deliverFault (e : Exc) (s : State) : Host.Outcome State Fault Refusal :=
  deliver e.vector e.contributory s.ip s

/-- INT n and INT3: a trap, so the saved IP is `next_ip` (R313, R314, R368). -/
def softwareInterrupt (i : Instr) (n : Byte) (s : State) : Host.Outcome State Fault Refusal :=
  conclude (savedIp i s) (fun rip t => deliver n false rip t) deliverFault

/-- The pops of IRET (R315); the answer is the new `pc`. -/
def trapReturn : M Word := do
  let o0 ← view fun s => s.slotAbove 0
  let o1 ← view fun s => s.slotAbove 1
  let o2 ← view fun s => s.slotAbove 2
  checkLimit .ss o0 2
  checkLimit .ss o1 2
  checkLimit .ss o2 2
  let stack ← view fun s => s.linear .ss
  let ip ← readWord (stack o0)
  let cs ← readWord (stack o1)
  let fl ← readWord (stack o2)
  checkTarget ip
  dropStack 3
  update fun s => s.loadSeg .cs cs
  update fun s => { s with
    eflags := s.eflags.load16 fl, latch := { s.latch with nmiBlocked := false } }
  return ip

/-! ### The frames of a meaning -/

/-- An instruction that does not transfer control: it ends at `next_ip`, which must not pass FFFFh
(R41, R108); the body answers what `int_shadow` becomes (R265). -/
def straightShadow (i : Instr) (body : M Shadow) (s : State) : Host.Outcome State Fault Refusal :=
  if s.pastLimit i then .fault .fetchPastLimit
  else conclude (body s) (fun h t => complete ((t.setIp (s.nextIp i)).setShadow h)) deliverFault

/-- An instruction that sets no shadow. -/
def straight (i : Instr) (body : M Unit) (s : State) : Host.Outcome State Fault Refusal :=
  straightShadow i (do body; return .none) s

/-- Where a control transfer goes. -/
inductive Flow where
  | next
  | goto (target : Word)
deriving DecidableEq, Repr

/-- How an instruction begun in `s` ends where its body left `t`: at `next_ip`, which must not pass FFFFh (R41,
R108), or at its target. -/
def follow (i : Instr) (s : State) (f : Flow) (t : State) : Host.Outcome State Fault Refusal :=
  match f with
  | .next => if s.pastLimit i then .fault .fetchPastLimit else complete ((t.setIp (s.nextIp i)).setShadow .none)
  | .goto target => complete (t.jump target)

/-- An instruction that may transfer control (R305): not taken it ends at `next_ip`, taken at its target. -/
def transfer (i : Instr) (body : M Flow) (s : State) : Host.Outcome State Fault Refusal :=
  conclude (body s) (follow i s) deliverFault

end Sys2Proof.Machine
end

