-- ==== Sys2Proof/Machine/Flags.lean ====
section
/-! DEFINITION. Every flag computation of the spec (R263, R294 to R300, R340) and the conditions of
R114. -/

namespace Sys2Proof.Machine

/-- A 16-bit result with the six arithmetic flags that go with it. -/
structure Arith where
  result : Word
  cf : Bool
  pf : Bool
  af : Bool
  zf : Bool
  sf : Bool
  ovf : Bool
deriving DecidableEq, Repr

/-- A result with ZF, SF, PF by `SZP` and the other three as given (R263). -/
def withSzp (r : Word) (cf af ovf : Bool) : Arith :=
  { result := r, cf := cf, pf := parity8 r, af := af, zf := decide (r = 0), sf := r.getLsbD 15, ovf := ovf }

/-- `AddFlags(a, b, c)` (R263). -/
def addFlags (a b : Word) (c : Bool) : Arith :=
  let s := a.toNat + b.toNat + c.toNat
  let r := BitVec.ofNat 16 s
  withSzp r (decide (2 ^ 16 ≤ s)) ((a ^^^ b ^^^ r).getLsbD 4) (((a ^^^ r) &&& (b ^^^ r)).getLsbD 15)

/-- `SubFlags(a, b, c)` (R263). -/
def subFlags (a b : Word) (c : Bool) : Arith :=
  let d : Int := (a.toNat : Int) - b.toNat - c.toNat
  let r := BitVec.ofInt 16 d
  withSzp r (decide (d < 0)) ((a ^^^ b ^^^ r).getLsbD 4) (((a ^^^ b) &&& (a ^^^ r)).getLsbD 15)

/-- `LogicFlags(r)`, AF being the free value `af` (R263). -/
def logicFlags (r : Word) (af : Bool) : Arith := withSzp r false af false

/-- Write the six arithmetic flags. -/
def State.setArith (s : State) (x : Arith) : State :=
  (((((s.setFlag .cf x.cf).setFlag .pf x.pf).setFlag .af x.af).setFlag .zf x.zf).setFlag .sf x.sf).setFlag .ovf x.ovf

/-! ### The eight two-operand operations (R281 to R289) -/

def opAdd (a b : Word) : M Arith := return addFlags a b false

def opAdc (a b : Word) : M Arith := do return addFlags a b (← view fun s => s.flag .cf)

def opSub (a b : Word) : M Arith := return subFlags a b false

def opSbb (a b : Word) : M Arith := do return subFlags a b (← view fun s => s.flag .cf)

def opAnd (a b : Word) : M Arith := do return logicFlags (a &&& b) (← drawBit)

def opOr (a b : Word) : M Arith := do return logicFlags (a ||| b) (← drawBit)

def opXor (a b : Word) : M Arith := do return logicFlags (a ^^^ b) (← drawBit)

/-! ### INC and DEC leave CF (R290, R291) -/

/-- `AddFlags(a, 1, 0)` with CF as it was. -/
def opInc (a : Word) : M Arith := do return { addFlags a 1 false with cf := ← view fun s => s.flag .cf }

/-- `SubFlags(a, 1, 0)` with CF as it was. -/
def opDec (a : Word) : M Arith := do return { subFlags a 1 false with cf := ← view fun s => s.flag .cf }

/-! ### Multiply and divide (R294 to R297) -/

/-- MUL and IMUL: CF and OF tell whether the upper half matters, the other four are free. -/
def setMulFlags (wide : Bool) : M Unit := do
  let sf ← drawBit
  let zf ← drawBit
  let af ← drawBit
  let pf ← drawBit
  update fun s => s.setArith
    { result := 0, cf := wide, pf := pf, af := af, zf := zf, sf := sf, ovf := wide }

/-- DIV and IDIV: all six are free. -/
def setDivFlags : M Unit := do
  let cf ← drawBit
  let ovf ← drawBit
  let sf ← drawBit
  let zf ← drawBit
  let af ← drawBit
  let pf ← drawBit
  update fun s => s.setArith
    { result := 0, cf := cf, pf := pf, af := af, zf := zf, sf := sf, ovf := ovf }

/-! ### Shifts by 1 to 31 (R298 to R300) -/

/-- SHL. The free values stand for AF, for CF at 16 and more, and for OF but at 1. -/
def shlFlags (a : Word) (cnt : Nat) (fAf fCf fOf : Bool) : Arith :=
  let r := a <<< cnt
  let cf := if cnt ≤ 15 then a.getLsbD (16 - cnt) else fCf
  withSzp r cf fAf (if cnt = 1 then r.getLsbD 15 ^^ cf else fOf)

/-- SHR. -/
def shrFlags (a : Word) (cnt : Nat) (fAf fCf fOf : Bool) : Arith :=
  withSzp (a >>> cnt) (if cnt ≤ 15 then a.getLsbD (cnt - 1) else fCf) fAf
    (if cnt = 1 then a.getLsbD 15 else fOf)

/-- SAR: its CF is defined at every count. -/
def sarFlags (a : Word) (cnt : Nat) (fAf fOf : Bool) : Arith :=
  withSzp (a.sshiftRight cnt) (if cnt ≤ 15 then a.getLsbD (cnt - 1) else a.getLsbD 15) fAf
    (if cnt = 1 then false else fOf)

def opShl (a : Word) (cnt : Nat) : M Arith := do
  let fAf ← drawBit
  let fCf ← drawBit
  let fOf ← drawBit
  return shlFlags a cnt fAf fCf fOf

def opShr (a : Word) (cnt : Nat) : M Arith := do
  let fAf ← drawBit
  let fCf ← drawBit
  let fOf ← drawBit
  return shrFlags a cnt fAf fCf fOf

def opSar (a : Word) (cnt : Nat) : M Arith := do
  let fAf ← drawBit
  let fOf ← drawBit
  return sarFlags a cnt fAf fOf

/-! ### Conditions of Jcc (R114) -/

/-- The eight conditions whose opcode is even; each odd opcode is the opposite of the one before it. -/
inductive Cond where
  | o | b | e | be | s | p | l | le
deriving DecidableEq, Repr

def State.holds (s : State) : Cond → Bool
  | .o => s.flag .ovf
  | .b => s.flag .cf
  | .e => s.flag .zf
  | .be => s.flag .cf || s.flag .zf
  | .s => s.flag .sf
  | .p => s.flag .pf
  | .l => s.flag .sf ^^ s.flag .ovf
  | .le => s.flag .zf || (s.flag .sf ^^ s.flag .ovf)

end Sys2Proof.Machine
end

