-- ==== Sys2Proof/Machine/Operands.lean ====
section
/-! DEFINITION. Operand forms: effective addresses, r/m operands and sources (R107, R109, R111, R261). -/

namespace Sys2Proof.Machine

/-- The sum of registers a base expression names (R107). -/
def State.baseValue (s : State) : EaBase → Word
  | .bxSi => s.r16 .bx + s.r16 .si
  | .bxDi => s.r16 .bx + s.r16 .di
  | .bpSi => s.r16 .bp + s.r16 .si
  | .bpDi => s.r16 .bp + s.r16 .di
  | .si => s.r16 .si
  | .di => s.r16 .di
  | .bp => s.r16 .bp
  | .bx => s.r16 .bx

/-- A displacement as a 16-bit value: `disp8` is sign-extended (R107). -/
def dispValue : Disp → Word
  | .none => 0
  | .d8 v => sext16 v
  | .d16 v => v

/-- The default segment: SS for a base that holds BP, DS otherwise (R107). -/
def baseSeg : EaBase → Sreg
  | .bxSi => .ds
  | .bxDi => .ds
  | .bpSi => .ss
  | .bpDi => .ss
  | .si => .ds
  | .di => .ds
  | .bp => .ss
  | .bx => .ds

/-- Where an operand is: in a register, or at an offset of a segment. -/
inductive Place where
  | reg (r : Reg)
  | mem (sg : Sreg) (off : Word)
deriving DecidableEq, Repr

/-- The place of an r/m operand: the effective address wraps at 16 bits (R107). -/
def State.place (s : State) : Rm → Place
  | .reg r => .reg r
  | .based b d => .mem (baseSeg b) (s.baseValue b + dispValue d)
  | .direct off => .mem .ds off

/-- A located operand: a register, or the linear address of two bytes. -/
inductive Loc where
  | reg (r : Reg)
  | mem (lin : Dword)
deriving DecidableEq, Repr

/-- The limit check of a two-byte operand in memory, and its linear address (R79, R111). -/
def locatePlace (p : Place) : M Loc :=
  match p with
  | .reg r => return .reg r
  | .mem sg off => do
    checkLimit sg off 2
    return .mem (← view fun s => s.linear sg off)

/-- Compute EA and check the limit, once for a read and the write after it (R111). -/
def locate (rm : Rm) : M Loc := do locatePlace (← view fun s => s.place rm)

/-- The read of R111, once the operand is located. -/
def readLoc : Loc → M Word
  | .reg r => view fun s => s.r16 r
  | .mem lin => readWord lin

/-- The write of R111, once the operand is located. -/
def writeLoc (l : Loc) (v : Word) : M Unit :=
  match l with
  | .reg r => update fun s => s.setR16 r v
  | .mem lin => writeWord lin v

/-- `RM16.read` (R111). -/
def readRm (rm : Rm) : M Word := do readLoc (← locate rm)

/-- `RM16.write(v)` (R111). -/
def writeRm (rm : Rm) (v : Word) : M Unit := do writeLoc (← locate rm) v

/-- A register as a source. -/
def regSource (r : Reg) : M Word := view fun s => s.r16 r

/-- An immediate as a source. -/
def immSource (v : Word) : M Word := return v

end Sys2Proof.Machine
end

