-- ==== Sys2Proof/Machine/Arith.lean ====
section
/-! DEFINITION. Arithmetic and logic with two operands (R281 to R289). -/

namespace Sys2Proof.Machine

/-- `op r/m16, src`: the operand is located once, read, and written (R111). -/
def intoRm (i : Instr) (rm : Rm) (src : M Word) (op : Word → Word → M Arith) (s : State) :
    Host.Outcome State Fault Refusal :=
  straight i (do
    let l ← locate rm
    let a ← readLoc l
    let x ← op a (← src)
    writeLoc l x.result
    update fun s => s.setArith x) s

/-- `op r16, src`. -/
def intoReg (i : Instr) (r : Reg) (src : M Word) (op : Word → Word → M Arith) (s : State) :
    Host.Outcome State Fault Refusal :=
  straight i (do
    let a ← regSource r
    let x ← op a (← src)
    update fun s => (s.setR16 r x.result).setArith x) s

/-- `op dst, src` that writes the flags alone: CMP and TEST (R288, R289). -/
def flagsOnly (i : Instr) (dst src : M Word) (op : Word → Word → M Arith) (s : State) :
    Host.Outcome State Fault Refusal :=
  straight i (do
    let a ← dst
    let x ← op a (← src)
    update fun s => s.setArith x) s

/-- ADD r/m16, r16 (R281). -/
def execAddRmR (rm : Rm) (r : Reg) (s : State) : Host.Outcome State Fault Refusal :=
  intoRm (.addRmR rm r) rm (regSource r) opAdd s

/-- ADD r16, r/m16 (R281). -/
def execAddRRm (r : Reg) (rm : Rm) (s : State) : Host.Outcome State Fault Refusal :=
  intoReg (.addRRm r rm) r (readRm rm) opAdd s

/-- ADD AX, imm16 (R281). -/
def execAddAxImm (imm : Word) (s : State) : Host.Outcome State Fault Refusal :=
  intoReg (.addAxImm imm) .ax (immSource imm) opAdd s

/-- ADD r/m16, imm16 (R281). -/
def execAddRmImm16 (rm : Rm) (imm : Word) (s : State) : Host.Outcome State Fault Refusal :=
  intoRm (.addRmImm16 rm imm) rm (immSource imm) opAdd s

/-- ADD r/m16, imm8 (R281). -/
def execAddRmImm8 (rm : Rm) (imm : Byte) (s : State) : Host.Outcome State Fault Refusal :=
  intoRm (.addRmImm8 rm imm) rm (immSource (sext16 imm)) opAdd s

/-- OR r/m16, r16 (R282). -/
def execOrRmR (rm : Rm) (r : Reg) (s : State) : Host.Outcome State Fault Refusal :=
  intoRm (.orRmR rm r) rm (regSource r) opOr s

/-- OR r16, r/m16 (R282). -/
def execOrRRm (r : Reg) (rm : Rm) (s : State) : Host.Outcome State Fault Refusal :=
  intoReg (.orRRm r rm) r (readRm rm) opOr s

/-- OR AX, imm16 (R282). -/
def execOrAxImm (imm : Word) (s : State) : Host.Outcome State Fault Refusal :=
  intoReg (.orAxImm imm) .ax (immSource imm) opOr s

/-- OR r/m16, imm16 (R282). -/
def execOrRmImm16 (rm : Rm) (imm : Word) (s : State) : Host.Outcome State Fault Refusal :=
  intoRm (.orRmImm16 rm imm) rm (immSource imm) opOr s

/-- OR r/m16, imm8 (R282). -/
def execOrRmImm8 (rm : Rm) (imm : Byte) (s : State) : Host.Outcome State Fault Refusal :=
  intoRm (.orRmImm8 rm imm) rm (immSource (sext16 imm)) opOr s

/-- ADC r/m16, r16 (R283). -/
def execAdcRmR (rm : Rm) (r : Reg) (s : State) : Host.Outcome State Fault Refusal :=
  intoRm (.adcRmR rm r) rm (regSource r) opAdc s

/-- ADC r16, r/m16 (R283). -/
def execAdcRRm (r : Reg) (rm : Rm) (s : State) : Host.Outcome State Fault Refusal :=
  intoReg (.adcRRm r rm) r (readRm rm) opAdc s

/-- ADC AX, imm16 (R283). -/
def execAdcAxImm (imm : Word) (s : State) : Host.Outcome State Fault Refusal :=
  intoReg (.adcAxImm imm) .ax (immSource imm) opAdc s

/-- ADC r/m16, imm16 (R283). -/
def execAdcRmImm16 (rm : Rm) (imm : Word) (s : State) : Host.Outcome State Fault Refusal :=
  intoRm (.adcRmImm16 rm imm) rm (immSource imm) opAdc s

/-- ADC r/m16, imm8 (R283). -/
def execAdcRmImm8 (rm : Rm) (imm : Byte) (s : State) : Host.Outcome State Fault Refusal :=
  intoRm (.adcRmImm8 rm imm) rm (immSource (sext16 imm)) opAdc s

/-- SBB r/m16, r16 (R284). -/
def execSbbRmR (rm : Rm) (r : Reg) (s : State) : Host.Outcome State Fault Refusal :=
  intoRm (.sbbRmR rm r) rm (regSource r) opSbb s

/-- SBB r16, r/m16 (R284). -/
def execSbbRRm (r : Reg) (rm : Rm) (s : State) : Host.Outcome State Fault Refusal :=
  intoReg (.sbbRRm r rm) r (readRm rm) opSbb s

/-- SBB AX, imm16 (R284). -/
def execSbbAxImm (imm : Word) (s : State) : Host.Outcome State Fault Refusal :=
  intoReg (.sbbAxImm imm) .ax (immSource imm) opSbb s

/-- SBB r/m16, imm16 (R284). -/
def execSbbRmImm16 (rm : Rm) (imm : Word) (s : State) : Host.Outcome State Fault Refusal :=
  intoRm (.sbbRmImm16 rm imm) rm (immSource imm) opSbb s

/-- SBB r/m16, imm8 (R284). -/
def execSbbRmImm8 (rm : Rm) (imm : Byte) (s : State) : Host.Outcome State Fault Refusal :=
  intoRm (.sbbRmImm8 rm imm) rm (immSource (sext16 imm)) opSbb s

/-- AND r/m16, r16 (R285). -/
def execAndRmR (rm : Rm) (r : Reg) (s : State) : Host.Outcome State Fault Refusal :=
  intoRm (.andRmR rm r) rm (regSource r) opAnd s

/-- AND r16, r/m16 (R285). -/
def execAndRRm (r : Reg) (rm : Rm) (s : State) : Host.Outcome State Fault Refusal :=
  intoReg (.andRRm r rm) r (readRm rm) opAnd s

/-- AND AX, imm16 (R285). -/
def execAndAxImm (imm : Word) (s : State) : Host.Outcome State Fault Refusal :=
  intoReg (.andAxImm imm) .ax (immSource imm) opAnd s

/-- AND r/m16, imm16 (R285). -/
def execAndRmImm16 (rm : Rm) (imm : Word) (s : State) : Host.Outcome State Fault Refusal :=
  intoRm (.andRmImm16 rm imm) rm (immSource imm) opAnd s

/-- AND r/m16, imm8 (R285). -/
def execAndRmImm8 (rm : Rm) (imm : Byte) (s : State) : Host.Outcome State Fault Refusal :=
  intoRm (.andRmImm8 rm imm) rm (immSource (sext16 imm)) opAnd s

/-- SUB r/m16, r16 (R286). -/
def execSubRmR (rm : Rm) (r : Reg) (s : State) : Host.Outcome State Fault Refusal :=
  intoRm (.subRmR rm r) rm (regSource r) opSub s

/-- SUB r16, r/m16 (R286). -/
def execSubRRm (r : Reg) (rm : Rm) (s : State) : Host.Outcome State Fault Refusal :=
  intoReg (.subRRm r rm) r (readRm rm) opSub s

/-- SUB AX, imm16 (R286). -/
def execSubAxImm (imm : Word) (s : State) : Host.Outcome State Fault Refusal :=
  intoReg (.subAxImm imm) .ax (immSource imm) opSub s

/-- SUB r/m16, imm16 (R286). -/
def execSubRmImm16 (rm : Rm) (imm : Word) (s : State) : Host.Outcome State Fault Refusal :=
  intoRm (.subRmImm16 rm imm) rm (immSource imm) opSub s

/-- SUB r/m16, imm8 (R286). -/
def execSubRmImm8 (rm : Rm) (imm : Byte) (s : State) : Host.Outcome State Fault Refusal :=
  intoRm (.subRmImm8 rm imm) rm (immSource (sext16 imm)) opSub s

/-- XOR r/m16, r16 (R287). -/
def execXorRmR (rm : Rm) (r : Reg) (s : State) : Host.Outcome State Fault Refusal :=
  intoRm (.xorRmR rm r) rm (regSource r) opXor s

/-- XOR r16, r/m16 (R287). -/
def execXorRRm (r : Reg) (rm : Rm) (s : State) : Host.Outcome State Fault Refusal :=
  intoReg (.xorRRm r rm) r (readRm rm) opXor s

/-- XOR AX, imm16 (R287). -/
def execXorAxImm (imm : Word) (s : State) : Host.Outcome State Fault Refusal :=
  intoReg (.xorAxImm imm) .ax (immSource imm) opXor s

/-- XOR r/m16, imm16 (R287). -/
def execXorRmImm16 (rm : Rm) (imm : Word) (s : State) : Host.Outcome State Fault Refusal :=
  intoRm (.xorRmImm16 rm imm) rm (immSource imm) opXor s

/-- XOR r/m16, imm8 (R287). -/
def execXorRmImm8 (rm : Rm) (imm : Byte) (s : State) : Host.Outcome State Fault Refusal :=
  intoRm (.xorRmImm8 rm imm) rm (immSource (sext16 imm)) opXor s

/-- CMP r/m16, r16 (R288). -/
def execCmpRmR (rm : Rm) (r : Reg) (s : State) : Host.Outcome State Fault Refusal :=
  flagsOnly (.cmpRmR rm r) (readRm rm) (regSource r) opSub s

/-- CMP r16, r/m16 (R288). -/
def execCmpRRm (r : Reg) (rm : Rm) (s : State) : Host.Outcome State Fault Refusal :=
  flagsOnly (.cmpRRm r rm) (regSource r) (readRm rm) opSub s

/-- CMP AX, imm16 (R288). -/
def execCmpAxImm (imm : Word) (s : State) : Host.Outcome State Fault Refusal :=
  flagsOnly (.cmpAxImm imm) (regSource .ax) (immSource imm) opSub s

/-- CMP r/m16, imm16 (R288). -/
def execCmpRmImm16 (rm : Rm) (imm : Word) (s : State) : Host.Outcome State Fault Refusal :=
  flagsOnly (.cmpRmImm16 rm imm) (readRm rm) (immSource imm) opSub s

/-- CMP r/m16, imm8 (R288). -/
def execCmpRmImm8 (rm : Rm) (imm : Byte) (s : State) : Host.Outcome State Fault Refusal :=
  flagsOnly (.cmpRmImm8 rm imm) (readRm rm) (immSource (sext16 imm)) opSub s

/-- TEST r/m16, r16 (R289). -/
def execTestRmR (rm : Rm) (r : Reg) (s : State) : Host.Outcome State Fault Refusal :=
  flagsOnly (.testRmR rm r) (readRm rm) (regSource r) opAnd s

/-- TEST r/m16, imm16 (R289). -/
def execTestRmImm16 (rm : Rm) (imm : Word) (s : State) : Host.Outcome State Fault Refusal :=
  flagsOnly (.testRmImm16 rm imm) (readRm rm) (immSource imm) opAnd s

end Sys2Proof.Machine
end

