-- ==== Sys2Proof/Machine/Control.lean ====
section
/-! DEFINITION. Control transfer: jumps, calls, returns, software interrupts (R305 to R315). -/

namespace Sys2Proof.Machine

/-- The target of a relative transfer: the sum wraps at 16 bits (R305). -/
def relTarget (i : Instr) (disp : Word) (s : State) : Word := s.nextIp i + disp

/-- A relative jump (R305). -/
def relJump (i : Instr) (disp : Word) : M Flow := do
  let t ← view (relTarget i disp)
  checkTarget t
  return .goto t

/-- Jcc: taken when `taken` holds (R309). -/
def jumpIf (i : Instr) (rel : Byte) (taken : State → Bool) (s : State) : Host.Outcome State Fault Refusal :=
  transfer i (do if ← view taken then relJump i (sext16 rel) else return .next) s

/-- JMP rel8 (R306). -/
def execJmpRel8 (rel : Byte) (s : State) : Host.Outcome State Fault Refusal :=
  transfer (.jmpRel8 rel) (relJump (.jmpRel8 rel) (sext16 rel)) s

/-- JMP rel16 (R307). -/
def execJmpRel16 (rel : Word) (s : State) : Host.Outcome State Fault Refusal :=
  transfer (.jmpRel16 rel) (relJump (.jmpRel16 rel) rel) s

/-- JMP ptr16:16 (R308). -/
def execJmpFar (seg : Word) (off : Word) (s : State) : Host.Outcome State Fault Refusal :=
  transfer (.jmpFar seg off) (do
    checkTarget off
    update fun s => s.loadSeg .cs seg
    return .goto off) s

/-- JO rel8 (R309). -/
def execJo (rel : Byte) (s : State) : Host.Outcome State Fault Refusal :=
  jumpIf (.jo rel) rel (fun s => s.holds .o) s

/-- JNO rel8 (R309). -/
def execJno (rel : Byte) (s : State) : Host.Outcome State Fault Refusal :=
  jumpIf (.jno rel) rel (fun s => !s.holds .o) s

/-- JB rel8 (R309). -/
def execJb (rel : Byte) (s : State) : Host.Outcome State Fault Refusal :=
  jumpIf (.jb rel) rel (fun s => s.holds .b) s

/-- JAE rel8 (R309). -/
def execJae (rel : Byte) (s : State) : Host.Outcome State Fault Refusal :=
  jumpIf (.jae rel) rel (fun s => !s.holds .b) s

/-- JE rel8 (R309). -/
def execJe (rel : Byte) (s : State) : Host.Outcome State Fault Refusal :=
  jumpIf (.je rel) rel (fun s => s.holds .e) s

/-- JNE rel8 (R309). -/
def execJne (rel : Byte) (s : State) : Host.Outcome State Fault Refusal :=
  jumpIf (.jne rel) rel (fun s => !s.holds .e) s

/-- JBE rel8 (R309). -/
def execJbe (rel : Byte) (s : State) : Host.Outcome State Fault Refusal :=
  jumpIf (.jbe rel) rel (fun s => s.holds .be) s

/-- JA rel8 (R309). -/
def execJa (rel : Byte) (s : State) : Host.Outcome State Fault Refusal :=
  jumpIf (.ja rel) rel (fun s => !s.holds .be) s

/-- JS rel8 (R309). -/
def execJs (rel : Byte) (s : State) : Host.Outcome State Fault Refusal :=
  jumpIf (.js rel) rel (fun s => s.holds .s) s

/-- JNS rel8 (R309). -/
def execJns (rel : Byte) (s : State) : Host.Outcome State Fault Refusal :=
  jumpIf (.jns rel) rel (fun s => !s.holds .s) s

/-- JP rel8 (R309). -/
def execJp (rel : Byte) (s : State) : Host.Outcome State Fault Refusal :=
  jumpIf (.jp rel) rel (fun s => s.holds .p) s

/-- JNP rel8 (R309). -/
def execJnp (rel : Byte) (s : State) : Host.Outcome State Fault Refusal :=
  jumpIf (.jnp rel) rel (fun s => !s.holds .p) s

/-- JL rel8 (R309). -/
def execJl (rel : Byte) (s : State) : Host.Outcome State Fault Refusal :=
  jumpIf (.jl rel) rel (fun s => s.holds .l) s

/-- JGE rel8 (R309). -/
def execJge (rel : Byte) (s : State) : Host.Outcome State Fault Refusal :=
  jumpIf (.jge rel) rel (fun s => !s.holds .l) s

/-- JLE rel8 (R309). -/
def execJle (rel : Byte) (s : State) : Host.Outcome State Fault Refusal :=
  jumpIf (.jle rel) rel (fun s => s.holds .le) s

/-- JG rel8 (R309). -/
def execJg (rel : Byte) (s : State) : Host.Outcome State Fault Refusal :=
  jumpIf (.jg rel) rel (fun s => !s.holds .le) s

/-- CALL rel16 (R310). -/
def execCallRel16 (rel : Word) (s : State) : Host.Outcome State Fault Refusal :=
  transfer (.callRel16 rel) (do
    let rip ← savedIp (.callRel16 rel)
    let t ← view (relTarget (.callRel16 rel) rel)
    checkTarget t
    push16 rip
    return .goto t) s

/-- RET (R311). -/
def execRet (s : State) : Host.Outcome State Fault Refusal :=
  transfer .ret (do
    let t ← peek16
    checkTarget t
    dropStack 1
    return .goto t) s

/-- LOOP rel8 (R312). -/
def execLoop (rel : Byte) (s : State) : Host.Outcome State Fault Refusal :=
  transfer (.loop rel) (do
    let c ← view fun s => s.r16 .cx - 1
    if c = 0 then do
      update fun s => s.setR16 .cx c
      return .next
    else do
      let t ← view (relTarget (.loop rel) (sext16 rel))
      checkTarget t
      update fun s => s.setR16 .cx c
      return .goto t) s

/-- INT imm8 (R313). -/
def execIntImm8 (n : Byte) (s : State) : Host.Outcome State Fault Refusal :=
  softwareInterrupt (.intImm8 n) n s

/-- INT3 (R314). -/
def execInt3 (s : State) : Host.Outcome State Fault Refusal :=
  softwareInterrupt .int3 3 s

/-- IRET (R315). -/
def execIret (s : State) : Host.Outcome State Fault Refusal :=
  transfer .iret (do return .goto (← trapReturn)) s

end Sys2Proof.Machine
end

