-- ==== Sys2Proof/Machine/Data.lean ====
section
/-! DEFINITION. MOV, PUSH, POP (R270 to R280). -/

namespace Sys2Proof.Machine

/-- MOV r8, imm8 (R270). -/
def execMovR8Imm8 (r : Reg8) (imm : Byte) (s : State) : Host.Outcome State Fault Refusal :=
  straight (.movR8Imm8 r imm) (update fun s => s.setR8 r imm) s

/-- MOV r16, imm16 (R271). -/
def execMovRImm16 (r : Reg) (imm : Word) (s : State) : Host.Outcome State Fault Refusal :=
  straight (.movRImm16 r imm) (update fun s => s.setR16 r imm) s

/-- MOV r/m16, r16 (R272). -/
def execMovRmR (rm : Rm) (r : Reg) (s : State) : Host.Outcome State Fault Refusal :=
  straight (.movRmR rm r) (do
    let l ← locate rm
    writeLoc l (← regSource r)) s

/-- MOV r16, r/m16 (R273). -/
def execMovRRm (r : Reg) (rm : Rm) (s : State) : Host.Outcome State Fault Refusal :=
  straight (.movRRm r rm) (do
    let v ← readRm rm
    update fun s => s.setR16 r v) s

/-- MOV AX, moffs16 (R274). -/
def execMovAxMoffs (moffs : Word) (s : State) : Host.Outcome State Fault Refusal :=
  straight (.movAxMoffs moffs) (do
    let v ← readLoc (← locatePlace (.mem .ds moffs))
    update fun s => s.setR16 .ax v) s

/-- MOV moffs16, AX (R275). -/
def execMovMoffsAx (moffs : Word) (s : State) : Host.Outcome State Fault Refusal :=
  straight (.movMoffsAx moffs) (do
    let l ← locatePlace (.mem .ds moffs)
    writeLoc l (← regSource .ax)) s

/-- MOV r/m16, imm16 (R276). -/
def execMovRmImm16 (rm : Rm) (imm : Word) (s : State) : Host.Outcome State Fault Refusal :=
  straight (.movRmImm16 rm imm) (writeRm rm imm) s

/-- The segment register MOV loads: CS and the numbers 6 and 7 are invalid (R116, R277). -/
def loadTarget : SregField → Option Sreg
  | .seg .cs => none
  | .seg r => some r
  | .six => none
  | .seven => none

/-- The shadow a load leaves: only SS sets one, and only the first of a run of loads surely; the run goes on
even where a draw left `int_shadow` at 0 (R277). -/
def shadowOfLoad (r : Sreg) : M Shadow :=
  if r = .ss then do
    if (← view fun s => s.latch.shadow) = .none then return .movSs
    else if ← drawBit then return .movSs
    else return .spent
  else return .none

/-- MOV Sreg, r/m16 (R277). -/
def execMovSregRm (sr : SregField) (rm : Rm) (s : State) : Host.Outcome State Fault Refusal :=
  straightShadow (.movSregRm sr rm) (
    match loadTarget sr with
    | none => raise .ud
    | some r => do
      let v ← readRm rm
      update fun s => s.loadSeg r v
      shadowOfLoad r) s

/-- MOV r/m16, Sreg (R278). -/
def execMovRmSreg (rm : Rm) (sr : SregField) (s : State) : Host.Outcome State Fault Refusal :=
  straight (.movRmSreg rm sr) (
    match sr with
    | .seg r => do
      let l ← locate rm
      writeLoc l (← view fun s => (s.seg r).sel)
    | .six => raise .ud
    | .seven => raise .ud) s

/-- PUSH r16 (R279). -/
def execPushR (r : Reg) (s : State) : Host.Outcome State Fault Refusal :=
  straight (.pushR r) (do push16 (← regSource r)) s

/-- POP r16 (R280). -/
def execPopR (r : Reg) (s : State) : Host.Outcome State Fault Refusal :=
  straight (.popR r) (do
    let v ← pop16
    update fun s => s.setR16 r v) s

end Sys2Proof.Machine
end

