-- ==== Sys2Proof/Machine/FlagOps.lean ====
section
/-! DEFINITION. The flag instructions (R316 to R322). -/

namespace Sys2Proof.Machine

/-- CLC (R316). -/
def execClc (s : State) : Host.Outcome State Fault Refusal :=
  straight .clc (update fun s => s.setFlag .cf false) s

/-- STC (R317). -/
def execStc (s : State) : Host.Outcome State Fault Refusal :=
  straight .stc (update fun s => s.setFlag .cf true) s

/-- CLI (R319). -/
def execCli (s : State) : Host.Outcome State Fault Refusal :=
  straight .cli (update fun s => s.setFlag .intf false) s

/-- CLD (R321). -/
def execCld (s : State) : Host.Outcome State Fault Refusal :=
  straight .cld (update fun s => s.setFlag .df false) s

/-- STD (R322). -/
def execStd (s : State) : Host.Outcome State Fault Refusal :=
  straight .std (update fun s => s.setFlag .df true) s

/-- CMC (R318). -/
def execCmc (s : State) : Host.Outcome State Fault Refusal :=
  straight .cmc (update fun s => s.setFlag .cf (!s.flag .cf)) s

/-- The shadow of STI: set only where IF was 0 (R320). -/
def shadowOfSti (s : State) : Shadow := if s.flag .intf then .none else .sti

/-- STI (R320). -/
def execSti (s : State) : Host.Outcome State Fault Refusal :=
  straightShadow .sti (do
    let h ← view shadowOfSti
    update fun s => s.setFlag .intf true
    return h) s

end Sys2Proof.Machine
end

