-- ==== Sys2Proof/Machine/Misc.lean ====
section
/-! DEFINITION. NOP, HLT, RDTSC (R330, R331, R335). -/

namespace Sys2Proof.Machine

/-- NOP (R330). -/
def execNop (s : State) : Host.Outcome State Fault Refusal :=
  straight .nop (return ()) s

/-- HLT (R331). -/
def execHlt (s : State) : Host.Outcome State Fault Refusal :=
  straight .hlt (update fun s => { s with run := .halted }) s

/-- A read of the time stamp counter: any value not below the last one read (R48). -/
def tscAfter (last : BitVec 64) (free : BitVec 64) : BitVec 64 :=
  BitVec.ofNat 64 (last.toNat + free.toNat % (2 ^ 64 - last.toNat))

/-- RDTSC (R335). -/
def execRdtsc (s : State) : Host.Outcome State Fault Refusal :=
  straight .rdtsc (do
    let free ← drawWide
    let t ← view fun s => tscAfter s.tsc free
    update fun s => { ((s.setR32 .ax (t.extractLsb' 0 32)).setR32 .dx (t.extractLsb' 32 32)) with tsc := t }) s

end Sys2Proof.Machine
end

