-- ==== Sys2Proof/Machine/MulDiv.lean ====
section
/-! DEFINITION. MUL, IMUL, DIV, IDIV (R294 to R297). -/

namespace Sys2Proof.Machine

/-- `AX <- p[15:0]`, `DX <- p[31:16]`. -/
def State.setProduct (s : State) (p : Dword) : State :=
  (s.setR16 .ax (low16 p)).setR16 .dx (p.extractLsb' 16 16)

/-- DX ++ AX. -/
def State.dividend (s : State) : Dword := s.r16 .dx ++ s.r16 .ax

/-- The quotient and remainder of DIV, none where it raises DE (R296). -/
def divide (n : Dword) (d : Word) : Option (Word × Word) :=
  if d = 0 then none
  else if 0xFFFF < n.toNat / d.toNat then none
  else some (BitVec.ofNat 16 (n.toNat / d.toNat), BitVec.ofNat 16 (n.toNat % d.toNat))

/-- The quotient, rounded toward zero, and remainder of IDIV, none where it raises DE (R297). -/
def divideSigned (n : Dword) (d : Word) : Option (Word × Word) :=
  if d = 0 then none
  else
    let q := n.toInt.tdiv d.toInt
    if q > 0x7FFF ∨ q < -0x8000 then none
    else some (BitVec.ofInt 16 q, BitVec.ofInt 16 (n.toInt - q * d.toInt))

/-- Write quotient and remainder, or raise DE with AX and DX unchanged (R296, R297). -/
def putQuotient (qr : Option (Word × Word)) : M Unit :=
  match qr with
  | none => raise .de
  | some (q, r) => do
    update fun s => (s.setR16 .ax q).setR16 .dx r
    setDivFlags

/-- MUL r/m16 (R294). -/
def execMulRm (rm : Rm) (s : State) : Host.Outcome State Fault Refusal :=
  straight (.mulRm rm) (do
    let b ← readRm rm
    let a ← regSource .ax
    let p := zext32 a * zext32 b
    update fun s => s.setProduct p
    setMulFlags (decide (p.extractLsb' 16 16 ≠ 0#16))) s

/-- IMUL r/m16 (R295). -/
def execImulRm (rm : Rm) (s : State) : Host.Outcome State Fault Refusal :=
  straight (.imulRm rm) (do
    let b ← readRm rm
    let a ← regSource .ax
    let p := a.signExtend 32 * b.signExtend 32
    update fun s => s.setProduct p
    setMulFlags (decide (p ≠ (low16 p).signExtend 32))) s

/-- DIV r/m16 (R296). -/
def execDivRm (rm : Rm) (s : State) : Host.Outcome State Fault Refusal :=
  straight (.divRm rm) (do
    let v ← readRm rm
    putQuotient (divide (← view fun s => s.dividend) v)) s

/-- IDIV r/m16 (R297). -/
def execIdivRm (rm : Rm) (s : State) : Host.Outcome State Fault Refusal :=
  straight (.idivRm rm) (do
    let v ← readRm rm
    putQuotient (divideSigned (← view fun s => s.dividend) v)) s

end Sys2Proof.Machine
end

