-- ==== Sys2Proof/Machine/PortIo.lean ====
section
/-! DEFINITION. Port input and output (R326, R327). -/

namespace Sys2Proof.Machine

/-- `zext_16` of an 8-bit port number (R109). -/
def portOf (p : Byte) : Word := p.setWidth 16

/-- One byte of the platform into AL. -/
def readPortByte (port : Word) : M Unit := do
  let v ← ioRead port 1
  update fun s => s.setR8 .al (loByte v)

/-- AL to the platform. -/
def writePortByte (port : Word) : M Unit := do
  let v ← view fun s => s.r8 .al
  ioWrite port 1 (v.setWidth 16)

/-- IN AL, imm8 (R326). -/
def execInAlImm8 (port : Byte) (s : State) : Host.Outcome State Fault Refusal :=
  straight (.inAlImm8 port) (readPortByte (portOf port)) s

/-- IN AL, DX (R326). -/
def execInAlDx (s : State) : Host.Outcome State Fault Refusal :=
  straight .inAlDx (do readPortByte (← regSource .dx)) s

/-- IN AX, DX (R326). -/
def execInAxDx (s : State) : Host.Outcome State Fault Refusal :=
  straight .inAxDx (do
    let v ← ioRead (← regSource .dx) 2
    update fun s => s.setR16 .ax v) s

/-- OUT imm8, AL (R327). -/
def execOutImm8Al (port : Byte) (s : State) : Host.Outcome State Fault Refusal :=
  straight (.outImm8Al port) (writePortByte (portOf port)) s

/-- OUT DX, AL (R327). -/
def execOutDxAl (s : State) : Host.Outcome State Fault Refusal :=
  straight .outDxAl (do writePortByte (← regSource .dx)) s

/-- OUT DX, AX (R327). -/
def execOutDxAx (s : State) : Host.Outcome State Fault Refusal :=
  straight .outDxAx (do
    let port ← regSource .dx
    ioWrite port 2 (← regSource .ax)) s

end Sys2Proof.Machine
end

