-- ==== Sys2Proof/Machine/Shift.lean ====
section
/-! DEFINITION. SHL, SHR, SAR (R298 to R300). -/

namespace Sys2Proof.Machine

/-- A count as the shifts use it: five bits, although the operand has 16 (part 5 of 43_x86_core_subset.md). -/
def maskCount (c : Byte) : Nat := (c &&& 0x1F).toNat

/-- A shift of an r/m operand: a count of 0 writes the operand back and changes no flag. -/
def shiftRm (i : Instr) (rm : Rm) (count : M Nat) (op : Word → Nat → M Arith) (s : State) :
    Host.Outcome State Fault Refusal :=
  straight i (do
    let l ← locate rm
    let a ← readLoc l
    let cnt ← count
    if cnt = 0 then writeLoc l a
    else do
      let x ← op a cnt
      writeLoc l x.result
      update fun s => s.setArith x) s

/-- The count in CL. -/
def clCount : M Nat := view fun s => maskCount (s.r8 .cl)

/-- SHL r/m16, imm8 (R298). -/
def execShlRmImm8 (rm : Rm) (imm : Byte) (s : State) : Host.Outcome State Fault Refusal :=
  shiftRm (.shlRmImm8 rm imm) rm (return maskCount imm) opShl s

/-- SHL r/m16, 1 (R298). -/
def execShlRm1 (rm : Rm) (s : State) : Host.Outcome State Fault Refusal :=
  shiftRm (.shlRm1 rm) rm (return 1) opShl s

/-- SHL r/m16, CL (R298). -/
def execShlRmCl (rm : Rm) (s : State) : Host.Outcome State Fault Refusal :=
  shiftRm (.shlRmCl rm) rm clCount opShl s

/-- SHR r/m16, imm8 (R299). -/
def execShrRmImm8 (rm : Rm) (imm : Byte) (s : State) : Host.Outcome State Fault Refusal :=
  shiftRm (.shrRmImm8 rm imm) rm (return maskCount imm) opShr s

/-- SHR r/m16, 1 (R299). -/
def execShrRm1 (rm : Rm) (s : State) : Host.Outcome State Fault Refusal :=
  shiftRm (.shrRm1 rm) rm (return 1) opShr s

/-- SHR r/m16, CL (R299). -/
def execShrRmCl (rm : Rm) (s : State) : Host.Outcome State Fault Refusal :=
  shiftRm (.shrRmCl rm) rm clCount opShr s

/-- SAR r/m16, imm8 (R300). -/
def execSarRmImm8 (rm : Rm) (imm : Byte) (s : State) : Host.Outcome State Fault Refusal :=
  shiftRm (.sarRmImm8 rm imm) rm (return maskCount imm) opSar s

/-- SAR r/m16, 1 (R300). -/
def execSarRm1 (rm : Rm) (s : State) : Host.Outcome State Fault Refusal :=
  shiftRm (.sarRm1 rm) rm (return 1) opSar s

/-- SAR r/m16, CL (R300). -/
def execSarRmCl (rm : Rm) (s : State) : Host.Outcome State Fault Refusal :=
  shiftRm (.sarRmCl rm) rm clCount opSar s

end Sys2Proof.Machine
end

