-- ==== Sys2Proof/Machine/Tap.lean ====
section
/-! DEFINITION. The TAP test logic: controller, registers, pins under EXTEST and HIGHZ, and the five
instructions (spec/41_tap_controller.md, spec/42_tap_instructions.md). -/

namespace Sys2Proof.Machine

/-! ### Controller (R210) -/

/-- `next(tap.state, tms)`. -/
def TapCtl.after (c : TapCtl) (tms : Bool) : TapCtl :=
  match c with
  | .testLogicReset => if tms then .testLogicReset else .runTestIdle
  | .runTestIdle => if tms then .selectDr else .runTestIdle
  | .selectDr => if tms then .selectIr else .captureDr
  | .captureDr => if tms then .exit1Dr else .shiftDr
  | .shiftDr => if tms then .exit1Dr else .shiftDr
  | .exit1Dr => if tms then .updateDr else .pauseDr
  | .pauseDr => if tms then .exit2Dr else .pauseDr
  | .exit2Dr => if tms then .updateDr else .shiftDr
  | .updateDr => if tms then .selectDr else .runTestIdle
  | .selectIr => if tms then .testLogicReset else .captureIr
  | .captureIr => if tms then .exit1Ir else .shiftIr
  | .shiftIr => if tms then .exit1Ir else .shiftIr
  | .exit1Ir => if tms then .updateIr else .pauseIr
  | .pauseIr => if tms then .exit2Ir else .pauseIr
  | .exit2Ir => if tms then .updateIr else .shiftIr
  | .updateIr => if tms then .selectDr else .runTestIdle

/-- The test data registers an instruction can select (R30). -/
inductive Tdr where
  | bsr | dir | br
deriving DecidableEq, Repr

/-- The register a code selects (R30, R246): any code but three selects the bypass register. -/
def selOf (p : TapCodes) (c : List Bool) : Tdr :=
  if c = p.extest then .bsr
  else if c = p.sample then .bsr
  else if c = p.idcode then .dir
  else .br

/-- `sel(IR.out)` (R30). -/
def State.sel (s : State) : Tdr := selOf s.board.ir s.tap.irOut

/-! ### Pins -/

/-- The electrical level of a logical one. -/
def levelOf (b : Bool) : Level := if b then .high else .low

/-- The logical value of an input pin (R14). -/
def InPins.get (p : InPins) : InPin → Bool
  | .a20m => p.a20m
  | .ahold => p.ahold
  | .bf0 => p.bf0
  | .bf1 => p.bf1
  | .bf2 => p.bf2
  | .boff => p.boff
  | .brdy => p.brdy
  | .brdyc => p.brdyc
  | .clk => p.clk
  | .eads => p.eads
  | .ewbe => p.ewbe
  | .flush => p.flush
  | .hold => p.hold
  | .ignne => p.ignne
  | .init => p.init
  | .intr => p.intr
  | .inv => p.inv
  | .ken => p.ken
  | .na => p.na
  | .nmi => p.nmi
  | .reset => p.reset
  | .smi => p.smi
  | .stpclk => p.stpclk
  | .trst => p.trst
  | .wbwt => p.wbwt

def InPins.set (p : InPins) (i : InPin) (b : Bool) : InPins :=
  match i with
  | .a20m => { p with a20m := b }
  | .ahold => { p with ahold := b }
  | .bf0 => { p with bf0 := b }
  | .bf1 => { p with bf1 := b }
  | .bf2 => { p with bf2 := b }
  | .boff => { p with boff := b }
  | .brdy => { p with brdy := b }
  | .brdyc => { p with brdyc := b }
  | .clk => { p with clk := b }
  | .eads => { p with eads := b }
  | .ewbe => { p with ewbe := b }
  | .flush => { p with flush := b }
  | .hold => { p with hold := b }
  | .ignne => { p with ignne := b }
  | .init => { p with init := b }
  | .intr => { p with intr := b }
  | .inv => { p with inv := b }
  | .ken => { p with ken := b }
  | .na => { p with na := b }
  | .nmi => { p with nmi := b }
  | .reset => { p with reset := b }
  | .smi => { p with smi := b }
  | .stpclk => { p with stpclk := b }
  | .trst => { p with trst := b }
  | .wbwt => { p with wbwt := b }

/-- Whether the name of an input pin ends in `#` (R14, R131). -/
def InPin.activeLow : InPin → Bool
  | .a20m | .boff | .brdy | .brdyc | .eads | .ewbe | .flush | .ignne | .ken | .na | .smi | .stpclk
  | .trst => true
  | .ahold | .bf0 | .bf1 | .bf2 | .clk | .hold | .init | .intr | .inv | .nmi | .reset | .wbwt => false

/-- The electrical level of an input pin (R14). -/
def InPins.level (p : InPins) (i : InPin) : Level := levelOf (p.get i ^^ i.activeLow)

/-- One bit of a driven bus. -/
def Drive.bit {w : Nat} (d : Drive w) (i : Nat) : Level :=
  match d with
  | .z => .z
  | .driven v => levelOf (v.getLsbD i)

def CoreOut.pin (c : CoreOut) : OutPin → Level
  | .ads => c.ads
  | .adsc => c.adsc
  | .apchk => c.apchk
  | .breq => c.breq
  | .cache => c.cache
  | .dc => c.dc
  | .ferr => c.ferr
  | .hit => c.hit
  | .hitm => c.hitm
  | .hlda => c.hlda
  | .lock => c.lock
  | .mio => c.mio
  | .pcd => c.pcd
  | .pchk => c.pchk
  | .pwt => c.pwt
  | .scyc => c.scyc
  | .smiact => c.smiact
  | .wr => c.wr

/-- What the core itself puts on a pin; nothing on an input pin. -/
def CoreOut.level (c : CoreOut) : PinBit → Level
  | .inp _ => .z
  | .out p => c.pin p
  | .be i => c.be.bit i
  | .a i => c.a.bit i
  | .ap => c.ap
  | .d i => c.d.bit i
  | .dp i => c.dp.bit i

/-- What the platform puts on a pin; nothing on an output-only pin (R132). -/
def Pins.platformLevel (p : Pins) : PinBit → Level
  | .inp i => p.inp.level i
  | .out _ => .z
  | .be _ => .z
  | .a i => p.bus.a.bit i
  | .ap => p.bus.ap
  | .d i => p.bus.d.bit i
  | .dp i => p.bus.dp.bit i

/-- The level two drivers make; driving against each other gives no known level. -/
def Level.join (a b : Level) : Level :=
  match a with
  | .z => b
  | .low => match b with
    | .high => .z
    | _ => .low
  | .high => match b with
    | .low => .z
    | _ => .high

/-- The value BSR.out holds for a pin's data cell: none where no cell is tied to the pin. DESIGN CHOICE (log
31): where BSR_MAP ties several data cells to one pin, say an input and an output cell of a bidirectional pin,
the spec does not say which drives it; the first in chain order does. -/
def dataCell : List BsrCell → List Bool → PinBit → Option Bool
  | .data q :: cells, v :: vs, p => if q = p then some v else dataCell cells vs p
  | .control _ _ :: cells, _ :: vs, p => dataCell cells vs p
  | _, _, _ => none

/-- Whether some control cell of BSR.out floats a pin (R241). DESIGN CHOICE (log 31): where several control cells
govern one pin and disagree, the spec does not say which decides; any one of them floats it. -/
def floatedByCell : List BsrCell → List Bool → PinBit → Bool
  | .data _ :: cells, _ :: vs, p => floatedByCell cells vs p
  | .control gov on :: cells, v :: vs, p => (gov.contains p && v != on) || floatedByCell cells vs p
  | _, _, _ => false

/-- What the part puts on an output or bidirectional pin while the instruction in force is `IR.out`:
its own level, the level of BSR.out under EXTEST (R241), nothing under HIGHZ (R244). -/
def State.partLevel (s : State) (p : PinBit) : Level :=
  if s.tap.irOut = s.board.ir.extest then
    if floatedByCell s.board.bsrMap s.tap.bsrOut p then .z
    else
      match dataCell s.board.bsrMap s.tap.bsrOut p with
      | some v => levelOf v
      | none => s.pins.out.level p
  else if s.tap.irOut = s.board.ir.highz then .z
  else s.pins.out.level p

/-- The level of a pin of the package (R20). -/
def State.pinLevel (s : State) (p : PinBit) : Level :=
  match p with
  | .inp i => s.pins.inp.level i
  | p => (s.partLevel p).join (s.pins.platformLevel p)

/-! ### Capture, shift, update (R212 to R219) -/

/-- A level as a captured bit; none for a floated pin. -/
def Level.bit : Level → Option Bool
  | .z => none
  | .low => some false
  | .high => some true

/-- Whether EXTEST captures a pin: input and bidirectional pins (R241). -/
def PinBit.isInput : PinBit → Bool
  | .inp _ => true
  | .out _ => false
  | .be _ => false
  | .a _ => true
  | .ap => true
  | .d _ => true
  | .dp _ => true

/-- What one cell captures under the code in force: none where the rule says `draw(1)` (R217, R241, R242), as
for a pin that is changing at the edge (R225, R242). -/
def State.cellCapture (s : State) (changing : List PinBit) : BsrCell → Option Bool
  | .control _ _ => none
  | .data p =>
    if changing.contains p then none
    else if s.tap.irOut = s.board.ir.extest && !p.isInput then none
    else (s.pinLevel p).bit

/-- The captured cells, each free bit taken from its own draw. -/
def captureCells (cells : List (Option Bool)) (n : Nat) : List Bool :=
  match cells with
  | [] => []
  | c :: rest => c.getD (drawBitAt n) :: captureCells rest (n + 1)

/-- Capture-DR (R217), with the pins that are changing at the edge. -/
def State.captureDr (s : State) (changing : List PinBit) : State :=
  match s.sel with
  | .bsr => { s with
      tap := { s.tap with bsrShift := captureCells (s.board.bsrMap.map (s.cellCapture changing)) s.draws }
      draws := s.draws + s.board.bsrMap.length }
  | .dir => { s with tap := { s.tap with dir := s.board.dirValue } }
  | .br => { s with tap := { s.tap with br := false } }

/-- `tdi ++ R[n-1:1]` of a register held as a list, bit 0 first (R218). -/
def shiftBits (bits : List Bool) (tdi : Bool) : List Bool := (bits ++ [tdi]).drop 1

/-- `tdi ++ R[n-1:1]` of a bit vector (R213, R218). -/
def shiftVec {w : Nat} (v : BitVec w) (tdi : Bool) : BitVec w := setBit (v >>> 1) (w - 1) tdi

/-- Shift-DR (R218). -/
def State.shiftDr (s : State) (tdi : Bool) : State :=
  match s.sel with
  | .bsr => { s with tap := { s.tap with bsrShift := shiftBits s.tap.bsrShift tdi } }
  | .dir => { s with tap := { s.tap with dir := shiftVec s.tap.dir tdi } }
  | .br => { s with tap := { s.tap with br := tdi } }

/-- The rising edge of TCK (R223): the action of the state before it, then the transition (R210). -/
def State.tapRise (s : State) (tms tdi : Bool) (changing : List PinBit) : State :=
  let t := match s.tap.ctl with
    | .captureIr => { s with tap := { s.tap with irShift := s.board.ir.capture } }
    | .shiftIr => { s with tap := { s.tap with irShift := shiftBits s.tap.irShift tdi } }
    | .captureDr => s.captureDr changing
    | .shiftDr => s.shiftDr tdi
    | _ => s
  { t with tap := { t.tap with ctl := s.tap.ctl.after tms } }

/-- Update-DR (R219). -/
def State.updateDr (s : State) : State :=
  match s.sel with
  | .bsr => { s with tap := { s.tap with bsrOut := s.tap.bsrShift, bsrLoaded := true } }
  | .dir => s
  | .br => s

/-- Bit 0 of a shift stage as a level; none of a stage without bits, which no parameters of D16 allow. -/
def firstBit : List Bool → Level
  | [] => .z
  | b :: _ => levelOf b

/-- Bit 0 of the selected shift stage as a level (R216). -/
def State.drBit (s : State) : Level :=
  match s.sel with
  | .bsr => firstBit s.tap.bsrShift
  | .dir => levelOf (s.tap.dir.getLsbD 0)
  | .br => levelOf s.tap.br

/-- TDO after a falling edge (R216, R223). -/
def State.driveTdo (s : State) : State :=
  let v := match s.tap.ctl with
    | .shiftIr => firstBit s.tap.irShift
    | .shiftDr => s.drBit
    | _ => .z
  { s with tap := { s.tap with tdo := v } }

/-- `TapReset` (R211). -/
def State.tapReset (s : State) : State :=
  { s with tap := { s.tap with ctl := .testLogicReset, irOut := s.board.ir.idcode, tdo := .z } }

/-- Whether TRST# or RESET holds the controller in reset (R211, R385). -/
def State.tapHeld (s : State) : Bool := s.pins.inp.trst || s.pins.inp.reset

/-! ### The five instructions: what coming into force does, at the falling edge in Update-IR (R215, R240) -/

/-- `IR.out <- code`. -/
def State.setIrOut (s : State) (code : List Bool) : State :=
  { s with tap := { s.tap with irOut := code } }

/-- EXTEST (R241): the pins follow BSR.out from here on; the core needs a RESET afterwards. A BSR.out that
nothing has loaded drives its reset value (log 4), which `State.drivesUnloaded` in Safety.lean marks. -/
def execExtest (s : State) : Host.Outcome State Fault Refusal :=
  let t := s.setIrOut s.board.ir.extest
  .next { t with tap := { t.tap with coreNeedsReset := true } }

/-- SAMPLE/PRELOAD (R242): selects the boundary-scan register; pins and core go on. -/
def execSamplePreload (s : State) : Host.Outcome State Fault Refusal :=
  .next (s.setIrOut s.board.ir.sample)

/-- IDCODE (R243): selects the identification register; pins and core go on. -/
def execIdcode (s : State) : Host.Outcome State Fault Refusal :=
  .next (s.setIrOut s.board.ir.idcode)

/-- HIGHZ (R244): selects the bypass register and floats the outputs; the core needs a RESET afterwards. -/
def execHighz (s : State) : Host.Outcome State Fault Refusal :=
  let t := s.setIrOut s.board.ir.highz
  .next { t with tap := { t.tap with coreNeedsReset := true } }

/-- BYPASS (R245): selects the bypass register; pins and core go on. -/
def execBypass (s : State) : Host.Outcome State Fault Refusal :=
  .next (s.setIrOut s.board.ir.bypass)

/-- The sampled TMS: high where nothing drives it, by its internal pull-up (R143), and free where the platform
broke its setup or hold time (R225). -/
def sampleTms (x : Sample) : M Bool :=
  match x with
  | .level b => return b
  | .undriven => return true
  | .unstable => drawBit

/-- The sampled TDI: free where the platform broke its setup or hold time (R225), and where nothing drives it,
since the spec gives TDI no pull-up (R141, log 35). -/
def sampleTdi (x : Sample) : M Bool :=
  match x with
  | .level b => return b
  | .undriven => drawBit
  | .unstable => drawBit

end Sys2Proof.Machine
end

