-- ==== Sys2Proof/Machine/Unary.lean ====
section
/-! DEFINITION. Arithmetic and logic with one operand: INC, DEC, NOT, NEG (R290 to R293). -/

namespace Sys2Proof.Machine

/-- An operation on one register that writes result and flags. -/
def onReg (i : Instr) (r : Reg) (op : Word → M Arith) (s : State) : Host.Outcome State Fault Refusal :=
  straight i (do
    let x ← op (← regSource r)
    update fun s => (s.setR16 r x.result).setArith x) s

/-- INC r16 (R290). -/
def execIncR (r : Reg) (s : State) : Host.Outcome State Fault Refusal :=
  onReg (.incR r) r opInc s

/-- DEC r16 (R291). -/
def execDecR (r : Reg) (s : State) : Host.Outcome State Fault Refusal :=
  onReg (.decR r) r opDec s

/-- NOT r/m16 (R292). -/
def execNotRm (rm : Rm) (s : State) : Host.Outcome State Fault Refusal :=
  straight (.notRm rm) (do
    let l ← locate rm
    let a ← readLoc l
    writeLoc l (a ^^^ 0xFFFF#16)) s

/-- NEG r/m16 (R293). -/
def execNegRm (rm : Rm) (s : State) : Host.Outcome State Fault Refusal :=
  straight (.negRm rm) (do
    let l ← locate rm
    let a ← readLoc l
    let x := subFlags 0 a false
    writeLoc l x.result
    update fun s => s.setArith x) s

end Sys2Proof.Machine
end

