-- ==== Sys2Proof/Machine/Dispatch.lean ====
section
/-! DEFINITION. One arm for each instruction: a direct call of its meaning. -/

namespace Sys2Proof.Machine

def exec (i : Instr) (s : State) : Host.Outcome State Fault Refusal :=
  match i with
  | .extest => Sys2Proof.Machine.execExtest s
  | .samplePreload => Sys2Proof.Machine.execSamplePreload s
  | .idcode => Sys2Proof.Machine.execIdcode s
  | .highz => Sys2Proof.Machine.execHighz s
  | .bypass => Sys2Proof.Machine.execBypass s
  | .addRmR rm r => Sys2Proof.Machine.execAddRmR rm r s
  | .addRRm r rm => Sys2Proof.Machine.execAddRRm r rm s
  | .addAxImm imm => Sys2Proof.Machine.execAddAxImm imm s
  | .orRmR rm r => Sys2Proof.Machine.execOrRmR rm r s
  | .orRRm r rm => Sys2Proof.Machine.execOrRRm r rm s
  | .orAxImm imm => Sys2Proof.Machine.execOrAxImm imm s
  | .adcRmR rm r => Sys2Proof.Machine.execAdcRmR rm r s
  | .adcRRm r rm => Sys2Proof.Machine.execAdcRRm r rm s
  | .adcAxImm imm => Sys2Proof.Machine.execAdcAxImm imm s
  | .sbbRmR rm r => Sys2Proof.Machine.execSbbRmR rm r s
  | .sbbRRm r rm => Sys2Proof.Machine.execSbbRRm r rm s
  | .sbbAxImm imm => Sys2Proof.Machine.execSbbAxImm imm s
  | .andRmR rm r => Sys2Proof.Machine.execAndRmR rm r s
  | .andRRm r rm => Sys2Proof.Machine.execAndRRm r rm s
  | .andAxImm imm => Sys2Proof.Machine.execAndAxImm imm s
  | .subRmR rm r => Sys2Proof.Machine.execSubRmR rm r s
  | .subRRm r rm => Sys2Proof.Machine.execSubRRm r rm s
  | .subAxImm imm => Sys2Proof.Machine.execSubAxImm imm s
  | .xorRmR rm r => Sys2Proof.Machine.execXorRmR rm r s
  | .xorRRm r rm => Sys2Proof.Machine.execXorRRm r rm s
  | .xorAxImm imm => Sys2Proof.Machine.execXorAxImm imm s
  | .cmpRmR rm r => Sys2Proof.Machine.execCmpRmR rm r s
  | .cmpRRm r rm => Sys2Proof.Machine.execCmpRRm r rm s
  | .cmpAxImm imm => Sys2Proof.Machine.execCmpAxImm imm s
  | .addRmImm16 rm imm => Sys2Proof.Machine.execAddRmImm16 rm imm s
  | .addRmImm8 rm imm => Sys2Proof.Machine.execAddRmImm8 rm imm s
  | .orRmImm16 rm imm => Sys2Proof.Machine.execOrRmImm16 rm imm s
  | .orRmImm8 rm imm => Sys2Proof.Machine.execOrRmImm8 rm imm s
  | .adcRmImm16 rm imm => Sys2Proof.Machine.execAdcRmImm16 rm imm s
  | .adcRmImm8 rm imm => Sys2Proof.Machine.execAdcRmImm8 rm imm s
  | .sbbRmImm16 rm imm => Sys2Proof.Machine.execSbbRmImm16 rm imm s
  | .sbbRmImm8 rm imm => Sys2Proof.Machine.execSbbRmImm8 rm imm s
  | .andRmImm16 rm imm => Sys2Proof.Machine.execAndRmImm16 rm imm s
  | .andRmImm8 rm imm => Sys2Proof.Machine.execAndRmImm8 rm imm s
  | .subRmImm16 rm imm => Sys2Proof.Machine.execSubRmImm16 rm imm s
  | .subRmImm8 rm imm => Sys2Proof.Machine.execSubRmImm8 rm imm s
  | .xorRmImm16 rm imm => Sys2Proof.Machine.execXorRmImm16 rm imm s
  | .xorRmImm8 rm imm => Sys2Proof.Machine.execXorRmImm8 rm imm s
  | .cmpRmImm16 rm imm => Sys2Proof.Machine.execCmpRmImm16 rm imm s
  | .cmpRmImm8 rm imm => Sys2Proof.Machine.execCmpRmImm8 rm imm s
  | .testRmR rm r => Sys2Proof.Machine.execTestRmR rm r s
  | .testRmImm16 rm imm => Sys2Proof.Machine.execTestRmImm16 rm imm s
  | .incR r => Sys2Proof.Machine.execIncR r s
  | .decR r => Sys2Proof.Machine.execDecR r s
  | .pushR r => Sys2Proof.Machine.execPushR r s
  | .popR r => Sys2Proof.Machine.execPopR r s
  | .jo rel => Sys2Proof.Machine.execJo rel s
  | .jno rel => Sys2Proof.Machine.execJno rel s
  | .jb rel => Sys2Proof.Machine.execJb rel s
  | .jae rel => Sys2Proof.Machine.execJae rel s
  | .je rel => Sys2Proof.Machine.execJe rel s
  | .jne rel => Sys2Proof.Machine.execJne rel s
  | .jbe rel => Sys2Proof.Machine.execJbe rel s
  | .ja rel => Sys2Proof.Machine.execJa rel s
  | .js rel => Sys2Proof.Machine.execJs rel s
  | .jns rel => Sys2Proof.Machine.execJns rel s
  | .jp rel => Sys2Proof.Machine.execJp rel s
  | .jnp rel => Sys2Proof.Machine.execJnp rel s
  | .jl rel => Sys2Proof.Machine.execJl rel s
  | .jge rel => Sys2Proof.Machine.execJge rel s
  | .jle rel => Sys2Proof.Machine.execJle rel s
  | .jg rel => Sys2Proof.Machine.execJg rel s
  | .movRmR rm r => Sys2Proof.Machine.execMovRmR rm r s
  | .movRRm r rm => Sys2Proof.Machine.execMovRRm r rm s
  | .movRmSreg rm sr => Sys2Proof.Machine.execMovRmSreg rm sr s
  | .movSregRm sr rm => Sys2Proof.Machine.execMovSregRm sr rm s
  | .nop => Sys2Proof.Machine.execNop s
  | .movAxMoffs moffs => Sys2Proof.Machine.execMovAxMoffs moffs s
  | .movMoffsAx moffs => Sys2Proof.Machine.execMovMoffsAx moffs s
  | .movR8Imm8 r imm => Sys2Proof.Machine.execMovR8Imm8 r imm s
  | .movRImm16 r imm => Sys2Proof.Machine.execMovRImm16 r imm s
  | .shlRmImm8 rm imm => Sys2Proof.Machine.execShlRmImm8 rm imm s
  | .shrRmImm8 rm imm => Sys2Proof.Machine.execShrRmImm8 rm imm s
  | .sarRmImm8 rm imm => Sys2Proof.Machine.execSarRmImm8 rm imm s
  | .ret => Sys2Proof.Machine.execRet s
  | .movRmImm16 rm imm => Sys2Proof.Machine.execMovRmImm16 rm imm s
  | .int3 => Sys2Proof.Machine.execInt3 s
  | .intImm8 n => Sys2Proof.Machine.execIntImm8 n s
  | .iret => Sys2Proof.Machine.execIret s
  | .shlRm1 rm => Sys2Proof.Machine.execShlRm1 rm s
  | .shrRm1 rm => Sys2Proof.Machine.execShrRm1 rm s
  | .sarRm1 rm => Sys2Proof.Machine.execSarRm1 rm s
  | .shlRmCl rm => Sys2Proof.Machine.execShlRmCl rm s
  | .shrRmCl rm => Sys2Proof.Machine.execShrRmCl rm s
  | .sarRmCl rm => Sys2Proof.Machine.execSarRmCl rm s
  | .loop rel => Sys2Proof.Machine.execLoop rel s
  | .inAlImm8 port => Sys2Proof.Machine.execInAlImm8 port s
  | .outImm8Al port => Sys2Proof.Machine.execOutImm8Al port s
  | .callRel16 rel => Sys2Proof.Machine.execCallRel16 rel s
  | .jmpRel16 rel => Sys2Proof.Machine.execJmpRel16 rel s
  | .jmpFar seg off => Sys2Proof.Machine.execJmpFar seg off s
  | .jmpRel8 rel => Sys2Proof.Machine.execJmpRel8 rel s
  | .inAlDx => Sys2Proof.Machine.execInAlDx s
  | .inAxDx => Sys2Proof.Machine.execInAxDx s
  | .outDxAl => Sys2Proof.Machine.execOutDxAl s
  | .outDxAx => Sys2Proof.Machine.execOutDxAx s
  | .hlt => Sys2Proof.Machine.execHlt s
  | .cmc => Sys2Proof.Machine.execCmc s
  | .notRm rm => Sys2Proof.Machine.execNotRm rm s
  | .negRm rm => Sys2Proof.Machine.execNegRm rm s
  | .mulRm rm => Sys2Proof.Machine.execMulRm rm s
  | .imulRm rm => Sys2Proof.Machine.execImulRm rm s
  | .divRm rm => Sys2Proof.Machine.execDivRm rm s
  | .idivRm rm => Sys2Proof.Machine.execIdivRm rm s
  | .clc => Sys2Proof.Machine.execClc s
  | .stc => Sys2Proof.Machine.execStc s
  | .cli => Sys2Proof.Machine.execCli s
  | .sti => Sys2Proof.Machine.execSti s
  | .cld => Sys2Proof.Machine.execCld s
  | .std => Sys2Proof.Machine.execStd s
  | .rdtsc => Sys2Proof.Machine.execRdtsc s

end Sys2Proof.Machine
end

