-- ==== Sys2Proof/Machine/Events.lean ====
section
/-! DEFINITION. Pin events (spec/60_exceptions.md R380 to R388), RESET and INIT
(spec/70_reset_and_hazards.md R410 to R414), and what a change of an input pin does. -/

namespace Sys2Proof.Machine

/-! ### RESET and INIT -/

/-- The output pins take levels the spec does not give (R20, R23, R414). -/
def State.refreshOut (s : State) : State :=
  { s with pins := { s.pins with out := Config.coreOut s.draws }, draws := s.draws + 1 }

/-- The registers RESET and INIT both set (R410, R383). -/
def State.startCore (s : State) : State :=
  { s with
    gpr := Gpr.reset s.board.cpuSignature
    eip := 0x0000FFF0
    eflags := Eflags.reset
    sreg := Sregs.reset
    run := .running
    dirty := [] }

/-- The x87 state after RESET: control, status and tag words; the rest has no stated value (R47, R410). -/
def Fpu.afterReset (f : Fpu) : Fpu :=
  { f with control := Fpu.reset.control, status := Fpu.reset.status, tag := Fpu.reset.tag }

/-- RESET (R385, R410): the core's state, TapReset, and every output without a stated level. -/
def State.applyReset (s : State) : State :=
  let t := s.startCore.tapReset
  { t with
    sys := SysRegs.reset
    fpu := t.fpu.afterReset
    msr := Msrs.reset
    tsc := 0
    smm := false
    latch := Latches.reset t.pins.inp.a20m
    tap := { t.tap with bsrLoaded := false, coreNeedsReset := false } }.refreshOut

/-- CR0 after INIT: CD and NW keep their values (R383, R410). -/
def initCr0 (old : Dword) : Dword :=
  (old &&& 0x60000000#32) ||| (SysRegs.reset.cr0 &&& 0x9FFFFFFF#32)

/-- INIT (R383): as RESET, but for CD and NW, the x87 state, the model-specific registers, the time
stamp counter and the TAP. -/
def State.applyInit (s : State) : State :=
  let t := s.startCore
  { t with
    sys := { SysRegs.reset with cr0 := initCr0 t.sys.cr0 }
    latch := { Latches.reset t.pins.inp.a20m with flushPending := t.latch.flushPending } }

/-! ### Pin events -/

/-- What can happen at an instruction boundary instead of an instruction (R260, R380). -/
inductive Event where
  | init
  | smi
  | nmi
  | intr
  | flush
  | stpclk
  | resume
  | lateNmi
  | lateSmi
deriving DecidableEq, Repr

/-- The one bit `int_shadow` of R56. -/
def State.intShadow (s : State) : Bool :=
  match s.latch.shadow with
  | .none => false
  | .sti => true
  | .movSs => true
  | .spent => false

/-- INTR is recognisable (R381). -/
def State.intrReady (s : State) : Bool :=
  s.pins.inp.intr && s.flag .intf && !s.intShadow

/-- NMI is recognisable (R382). -/
def State.nmiReady (s : State) : Bool :=
  s.latch.nmiPending && !s.latch.nmiBlocked && decide (s.latch.shadow ≠ .movSs)

/-- The events recognisable while the core runs or is halted. -/
def State.boundaryEvents (s : State) : List Event :=
  (if s.latch.initPending then [.init] else []) ++
  (if s.latch.smiPending then [.smi] else []) ++
  (if s.nmiReady then [.nmi] else []) ++
  (if s.intrReady then [.intr] else []) ++
  (if s.latch.flushPending then [.flush] else []) ++
  (if s.pins.inp.stpclk then [.stpclk] else [])

/-- The events recognisable in Stop Grant: SMI# (R384) and the end of the grant (R387). -/
def State.grantEvents (s : State) : List Event :=
  (if s.latch.smiPending then [.smi] else []) ++
  (if s.pins.inp.stpclk then [] else [.resume])

/-- The events that end a shutdown, and those the model refuses there (R372). DESIGN CHOICE (log 46): an NMI latched
counts there whether or not it is blocked (R382), as the spec does not say. -/
def State.shutdownEvents (s : State) : List Event :=
  (if s.latch.initPending then [.init] else []) ++
  (if s.latch.nmiPending then [.lateNmi] else []) ++
  (if s.latch.smiPending then [.lateSmi] else [])

/-- The events pending and recognisable now. -/
def State.events (s : State) : List Event :=
  match s.run with
  | .running => s.boundaryEvents
  | .halted => s.boundaryEvents
  | .stopGrant _ => s.grantEvents
  | .shutdown => s.shutdownEvents
  | .stuck => []

/-- The order among several is free (R380): a draw picks one of `e :: es`. -/
def pickEvent (e : Event) (es : List Event) : M Event := fun s =>
  match es with
  | [] => .ok (e, s)
  | _ => .ok ((e :: es).getD ((Config.draw s.draws).toNat % (es.length + 1)) e, { s with draws := s.draws + 1 })

/-- The interrupt acknowledge (R381): the platform supplies the vector. -/
def acknowledge : M Byte := do
  let v ← takeAnswer
  update fun s => s.see (.intAck (loByte v))
  return loByte v

/-- Take one event (R381 to R387). -/
def takeEvent (e : Event) (s : State) : Host.Outcome State Fault Refusal :=
  match e with
  | .init => .next s.applyInit
  | .smi => .refused .smmEntry
  | .nmi =>
    deliver 2 false s.ip { s with latch := { s.latch with nmiPending := false, nmiBlocked := true } }
  | .intr =>
    conclude (acknowledge s) (fun n t => deliver n false s.ip t) deliverFault
  | .flush => .next ({ s with latch := { s.latch with flushPending := false } }.see .flushAck)
  | .stpclk => .next ({ s with run := .stopGrant (decide (s.run = RunState.halted)) }.see .stopGrantCycle)
  | .resume =>
    match s.run with
    | .stopGrant true => .next { s with run := .halted }
    | _ => .next { s with run := .running }
  | .lateNmi => .refused .shutdownEvent
  | .lateSmi => .refused .shutdownEvent

/-! ### Changes of input pins -/

/-- The latches an edge sets (R56, R386): NMI and INIT rise, SMI# and FLUSH# fall. While RESET is
asserted the core latches nothing (R385). A20M# is a level (R388). -/
def State.latchEdge (s : State) (p : HostPin) (old new : Bool) : State :=
  let l := s.latch
  match p with
  | .a20m => { s with latch := { l with a20Mask := new } }
  | .nmi => if !old && new && !s.pins.inp.reset then { s with latch := { l with nmiPending := true } } else s
  | .init => if !old && new && !s.pins.inp.reset then { s with latch := { l with initPending := true } } else s
  | .smi => if !old && new && !s.pins.inp.reset then { s with latch := { l with smiPending := true } } else s
  | .flush => if !old && new && !s.pins.inp.reset then { s with latch := { l with flushPending := true } } else s
  | _ => s

/-- The pin of the package a host pin is. -/
def HostPin.pin : HostPin → InPin
  | .a20m => .a20m
  | .bf0 => .bf0
  | .bf1 => .bf1
  | .bf2 => .bf2
  | .brdy => .brdy
  | .brdyc => .brdyc
  | .clk => .clk
  | .ewbe => .ewbe
  | .flush => .flush
  | .ignne => .ignne
  | .init => .init
  | .intr => .intr
  | .ken => .ken
  | .na => .na
  | .nmi => .nmi
  | .reset => .reset
  | .smi => .smi
  | .stpclk => .stpclk
  | .trst => .trst
  | .wbwt => .wbwt

/-- BF[2:0] as they stand (R412). -/
def InPins.ratio (p : InPins) : BitVec 3 :=
  BitVec.ofBool p.bf2 ++ BitVec.ofBool p.bf1 ++ BitVec.ofBool p.bf0

/-- The falling edge of RESET (R412): FLUSH# low asks for the Tri-State Test mode (R165), INIT high for
the built-in self-test, whose result is free (R410); BF[2:0] are sampled. -/
def State.endReset (s : State) : Host.Outcome State Fault Refusal :=
  if s.pins.inp.flush then .refused .triStateTest
  else
    let t := { s with bfRatio := s.pins.inp.ratio }
    if s.pins.inp.init then
      .next { (t.setR32 .ax ((Config.draw t.draws).setWidth 32)) with draws := t.draws + 1 }
    else .next t

/-- The platform drives one input pin to a logical value. -/
def drivePin (p : HostPin) (new : Bool) (s : State) : Host.Outcome State Fault Refusal :=
  let old := s.pins.inp.get p.pin
  let t := { s with pins := { s.pins with inp := s.pins.inp.set p.pin new } }
  match p with
  | .reset =>
    if !old && new then .next t.applyReset
    else if old && !new then t.endReset
    else .next t
  | .trst => if new then .next t.tapReset else .next t
  | p => .next (t.latchEdge p old new)

end Sys2Proof.Machine
end

