-- ==== Sys2Proof/Machine/Run.lean ====
section
/-! DEFINITION. One step of each agent: fetch and execute, a TCK period, a move of the platform
(R108, R223, R260). -/

namespace Sys2Proof.Machine

/-! ### Fetch (R108) -/

/-- Byte `k` of the instruction at CS:pc: past FFFFh and a byte of `dirty_code` are faults (R90, R108). DESIGN CHOICE
(log 38): `dirty_code` is looked at before memory, so a byte in it that nothing answers (R74) is
`fault(stale_fetch)` and does not stick the core; the spec gives these no order. -/
def fetchByte (k : Nat) : M Byte := do
  let ip ← view State.ip
  if 0xFFFF < ip.toNat + k then stopFault .fetchPastLimit else
  let lin ← view fun s => s.linear .cs (ip + BitVec.ofNat 16 k)
  let a ← view fun s => s.phys lin
  if ← view fun s => s.dirty.contains a then stopFault (.staleFetch a) else
  readByte lin

/-- Fetch byte after byte until the bytes `got` decode, `fuel` bytes at most. -/
def fetchFrom : Nat → List Byte → M Instr
  | 0, _ => stopFault .fetchPastLimit
  | fuel + 1, got =>
    match decodeBytes got with
    | .instr i _ => return i
    | .refused n => stopRefused (.encoding n)
    | .more => do
      let b ← fetchByte got.length
      fetchFrom fuel (got ++ [b])

/-- The instruction at CS:pc; the longest has six bytes (R105). -/
def fetch : M Instr := fetchFrom 7 []

/-! ### The core (R260) -/

/-- Real-address mode: CR0.PE and CR0.PG clear, no SMM (R44, R50). -/
def State.realMode (s : State) : Bool := !s.sys.cr0.getLsbD 0 && !s.sys.cr0.getLsbD 31 && !s.smm

/-- DR7 enables a breakpoint (R364). -/
def State.breakpointArmed (s : State) : Bool := decide (s.sys.dr7 &&& 0xFF ≠ 0)

/-- EXTEST or HIGHZ is in force (R240). -/
def State.pinsTaken (s : State) : Bool :=
  decide (s.tap.irOut = s.board.ir.extest ∨ s.tap.irOut = s.board.ir.highz)

/-- After an instruction or an event the outputs have levels the spec does not give (R20). -/
def settle (o : Host.Outcome State Fault Refusal) : Host.Outcome State Fault Refusal :=
  match o with
  | .next s => .next s.refreshOut
  | .fault f => .fault f
  | .refused r => .refused r

/-- Fetch, decode and execute (R260 items 2 to 4). -/
def executeNext (s : State) : Host.Outcome State Fault Refusal :=
  conclude (fetch s) exec deliverFault

/-- One of the events `e :: es` (R260 item 1). -/
def serve (e : Event) (es : List Event) (s : State) : Host.Outcome State Fault Refusal :=
  conclude (pickEvent e es s) takeEvent deliverFault

/-- One step of the core (R260): nothing while RESET is asserted (R385); refused while or after EXTEST or
HIGHZ has its pins (R240, D19), outside real-address mode (R50) and with a breakpoint armed (R364). -/
def coreStep (s : State) : Host.Outcome State Fault Refusal :=
  if s.pins.inp.reset then .next s
  else if s.pinsTaken then .refused .pinsOverridden
  else if s.tap.coreNeedsReset then .refused .resetRequired
  else if !s.realMode then .refused .notRealMode
  else if s.breakpointArmed then .refused .debugTrap
  else
    match s.events with
    | e :: es => settle (serve e es s)
    | [] =>
      match s.run with
      | .running => settle (executeNext s)
      | .halted => .next s
      | .stopGrant _ => .next s
      | .shutdown => .next s
      | .stuck => .next s

/-! ### The TAP (R223) -/

/-- The falling edge of TCK: in Update-IR the instruction whose code was shifted in comes into force;
a code that names none of the five acts as BYPASS (R246). -/
def tapFall (s : State) : Host.Outcome State Fault Refusal :=
  match s.tap.ctl with
  | .updateIr =>
    match decodeIr s.board.ir s.tap.irShift with
    | some i => exec i s
    | none => .next (s.setIrOut s.tap.irShift)
  | .updateDr => .next s.updateDr
  | .testLogicReset => .next (s.setIrOut s.board.ir.idcode)
  | _ => .next s

/-- The pins TMS and TDI as they stand at the end of the period; TCK is low again. -/
def State.setTestPins (s : State) (tms tdi : Bool) : State :=
  { s with pins := { s.pins with inp := { s.pins.inp with tms := tms, tdi := tdi, tck := false } } }

/-- `TapCycle(tms, tdi)` (R223), which TRST# and RESET hold in reset (R211), with the other pins that are
changing at its rising edge. -/
def tapCycle (tms tdi : Bool) (changing : List PinBit) (s : State) : Host.Outcome State Fault Refusal :=
  let t := s.setTestPins tms tdi
  if t.tapHeld then .next t.tapReset
  else
    match tapFall (t.tapRise tms tdi changing) with
    | .next u => .next u.driveTdo
    | .fault f => .fault f
    | .refused r => .refused r

/-- One TCK period with its sampled inputs (R143, R225). -/
def tapStep (tms tdi : Sample) (changing : List PinBit) (s : State) : Host.Outcome State Fault Refusal :=
  conclude ((do return (← sampleTms tms, ← sampleTdi tdi) : M (Bool × Bool)) s)
    (fun x t => tapCycle x.1 x.2 changing t) deliverFault

/-! ### The platform (R12) -/

/-- What a move of the schedule does. -/
def perform (m : Move) (s : State) : Host.Outcome State Fault Refusal :=
  match m with
  | .core => coreStep s
  | .tck tms tdi changing => tapStep tms tdi changing s
  | .drive p asserted => drivePin p asserted s
  | .driveA v => .next { s with pins := { s.pins with bus := { s.pins.bus with a := v } } }
  | .driveAp v => .next { s with pins := { s.pins with bus := { s.pins.bus with ap := v } } }
  | .driveD v => .next { s with pins := { s.pins with bus := { s.pins.bus with d := v } } }
  | .driveDp v => .next { s with pins := { s.pins with bus := { s.pins.bus with dp := v } } }

/-- The scheduled move, or the core's where none is scheduled. -/
def advance (s : State) : Host.Outcome State Fault Refusal :=
  match s.schedule with
  | [] => coreStep s
  | m :: rest => perform m { s with schedule := rest }

/-! ### Placing one instruction -/

/-- Store bytes at offsets `pc + k` on of the code segment, as data the core did not write. -/
def placeBytes : List Byte → Nat → State → State
  | [], _, s => s
  | b :: rest, k, s =>
    let a := s.phys (s.linear .cs (s.ip + BitVec.ofNat 16 k))
    placeBytes rest (k + 1)
      { s with mem := Memory.set s.mem a b, dirty := s.dirty.filter fun d => d != a }

/-- The code of a TAP instruction, in IR.shift one TCK period before Update-IR. -/
def placeCode (i : Instr) (s : State) : State :=
  match encode s.board.ir i with
  | .bytes _ => s
  | .irCode c => { s with
      tap := { s.tap with ctl := .exit1Ir, irShift := c }
      schedule := [.tck (.level true) (.level false) []] }

/-- A table word as the bytes at CS:pc, or as a code for Update-IR. -/
def placeWord (nbits w : Nat) (s : State) : State :=
  match if nbits < 8 then tableIr nbits w else
      match decodeBytes (tableBytes nbits w) with
      | .instr _ _ => none
      | _ => tableIr nbits w with
  | some i => placeCode i s
  | none => placeBytes (tableBytes nbits w) 0 { s with schedule := [] }

end Sys2Proof.Machine
end

