-- ==== Sys2Proof/Machine/Step.lean ====
section
/-! DEFINITION. The step of the whole machine: one move of one agent (R12). -/

namespace Sys2Proof.Machine

def step : State → Host.Outcome State Fault Refusal := advance

/-- The state with one instruction placed where the next step takes it from. -/
def State.withFetchWord (s : State) (nbits w : Nat) : State := placeWord nbits w s

end Sys2Proof.Machine
end

