-- ==== Sys2Proof/Safety.lean ====
section
/-! DEFINITION. What claims speak of: memory and operands read without an effect on the platform, the
conditions under which an access or an instruction completes, and the sound states. -/

namespace Sys2Proof.Machine

/-! ### Memory as a claim reads it -/

/-- The byte a read at a linear address gives where no platform answer is asked for: RAM or ROM that
holds a value (R74). -/
def State.peekByte (s : State) (lin : Dword) : Option Byte :=
  match s.board.kindAt (s.phys lin) with
  | .ram => Memory.get s.mem (s.phys lin)
  | .rom _ => Memory.get s.mem (s.phys lin)
  | .volatile => none
  | .nothing _ => none

/-- The 16-bit datum at a linear address, low byte first (R77). -/
def State.peekWord (s : State) (lin : Dword) : Option Word :=
  match s.peekByte lin, s.peekByte (lin + 1) with
  | some lo, some hi => some (joinBytes lo hi)
  | _, _ => none

/-- Both bytes at a linear address are RAM, so a store there completes (R75). -/
def State.storable (s : State) (lin : Dword) : Bool :=
  decide (s.board.kindAt (s.phys lin) = .ram) && decide (s.board.kindAt (s.phys (lin + 1)) = .ram)

/-- The state after a 16-bit store to RAM (R75, R90). -/
def State.pokeWord (s : State) (lin : Dword) (v : Word) : State :=
  (s.poke (s.phys lin) (loByte v)).poke (s.phys (lin + 1)) (hiByte v)

/-- The two physical addresses of a 16-bit datum. -/
def State.wordAt (s : State) (lin : Dword) : List Nat := [s.phys lin, s.phys (lin + 1)]

/-! ### Operands -/

/-- The linear address of an operand in memory; none for a register. -/
def State.address (s : State) : Place → Option Dword
  | .reg _ => none
  | .mem sg off => some (s.linear sg off)

/-- The limit check of the operand passes (R79). -/
def State.inBounds (s : State) : Place → Bool
  | .reg _ => true
  | .mem sg off => s.inLimit sg off 2

/-- What the operand holds, where a read of it completes. -/
def State.holdsAt (s : State) : Place → Option Word
  | .reg r => some (s.r16 r)
  | .mem sg off => if s.inLimit sg off 2 then s.peekWord (s.linear sg off) else none

/-- A write of the operand completes. -/
def State.takes (s : State) : Place → Bool
  | .reg _ => true
  | .mem sg off => s.inLimit sg off 2 && s.storable (s.linear sg off)

/-- The state after a write of the operand. -/
def State.put (s : State) (p : Place) (v : Word) : State :=
  match p with
  | .reg r => s.setR16 r v
  | .mem sg off => s.pokeWord (s.linear sg off) v

/-- The physical addresses a write of the operand stores to: none for a register. -/
def State.stores (s : State) (p : Place) : List Nat :=
  match s.address p with
  | none => []
  | some lin => s.wordAt lin

/-! ### Completing -/

/-- The instruction fits below FFFFh and TF is clear, so nothing but its own operands can keep it from
ending at `next_ip` (R108, R364). -/
def State.mayFinish (s : State) (i : Instr) : Bool := !s.pastLimit i && !s.flag .tf

/-- `s` at the end of an instruction that does not transfer control: pc at `next_ip`, no shadow (R265). -/
def State.atEnd (s : State) (i : Instr) : State := (s.setIp (s.nextIp i)).setShadow .none

/-- The state with `n` more free values taken. -/
def State.drew (s : State) (n : Nat) : State := { s with draws := s.draws + n }

/-- The registers of the core that no instruction of the subset but RDTSC writes, and the TAP, the pins
and the parameters, which none writes. -/
def State.sameRest (s t : State) : Prop :=
  t.sys = s.sys ∧ t.fpu = s.fpu ∧ t.msr = s.msr ∧ t.smm = s.smm ∧ t.bfRatio = s.bfRatio ∧
  t.tap = s.tap ∧ t.pins = s.pins ∧ t.schedule = s.schedule ∧ t.board = s.board

/-! ### Stack and vector table -/

/-- The stack slot `k` items below SP is within the limit and in RAM. -/
def State.slotFree (s : State) (k : Nat) : Bool :=
  s.inLimit .ss (s.slotBelow k) 2 && s.storable (s.linear .ss (s.slotBelow k))

/-- The entry of the vector table for vector `n`: offset and segment (R366). -/
def State.vector (s : State) (n : Byte) : Option (Word × Word) :=
  let vec := s.sys.idtr.base + BitVec.ofNat 32 (4 * n.toNat)
  match s.peekWord vec, s.peekWord (vec + 2) with
  | some off, some seg => some (off, seg)
  | _, _ => none

/-- A trap entry for vector `n` completes: the table entry is readable and three slots are free. -/
def State.canEnter (s : State) (n : Byte) : Bool :=
  decide (4 * n.toNat + 3 ≤ s.sys.idtr.limit.toNat) && (s.vector n).isSome &&
  s.slotFree 1 && s.slotFree 2 && s.slotFree 3

/-! ### Outcomes of the common ends -/

/-- The state a completed trap entry leaves (R366): three words stored, then the handler's address. -/
def State.entered (s : State) (n : Byte) (rip : Word) : State :=
  match s.vector n with
  | none => s
  | some (off, seg) =>
    (((s.pokeWord (s.linear .ss (s.slotBelow 1)) s.flags16).pokeWord
      (s.linear .ss (s.slotBelow 2)) (s.seg .cs).sel).pokeWord
      (s.linear .ss (s.slotBelow 3)) rip).enterHandler (s.slotBelow 3) seg off

/-- The platform's next answer, and the state once it is taken (D25). -/
def State.answer (s : State) : Word × State :=
  match s.answers with
  | v :: rest => (v, { s with answers := rest })
  | [] => ((Config.draw s.draws).setWidth 16, s.drew 1)

/-! ### Sound states -/

/-- What D16 lets a model assume of the parameters: the codes are well formed, BSR_LEN is at least 1, bit 0 of
DIR_VALUE is 1. -/
def Board.wf (b : Board) : Bool := b.ir.wf && !b.bsrMap.isEmpty && b.dirValue.getLsbD 0

/-- The pins another master would take the bus by are negated (R170). -/
def InPins.oneMaster (p : InPins) : Bool := !p.ahold && !p.boff && !p.hold && !p.eads && !p.inv

/-- What R35 and R241 mark as a run gone wrong: EXTEST drives the pins from a BSR.out nothing has loaded. The
model goes on with the value BSR.out has (log 4), so a claim about such a run says nothing of the part. -/
def State.drivesUnloaded (s : State) : Bool := decide (s.tap.irOut = s.board.ir.extest) && !s.tap.bsrLoaded

/-- What holds at reset and after every step: the memory's canonical form, the registers no instruction
of the subset can move from real-address mode, the TAP's own rules, and what the parameters are bound to. -/
structure State.Sound (s : State) : Prop where
  memory : Memory.wf s.mem = true
  dirty : s.dirty.Pairwise (· < ·)
  eip : s.eip.toNat < 2 ^ 16
  mode : s.realMode = true
  noBreakpoint : s.breakpointArmed = false
  idtr : s.sys.idtr = { base := 0, limit := 0xFFFF }
  limits : ∀ r, (s.seg r).limit = 0xFFFF
  board : s.board.wf = true
  oneMaster : s.pins.inp.oneMaster = true
  irShiftLength : s.tap.irShift.length = s.board.ir.len
  irOutLength : s.tap.irOut.length = s.board.ir.len
  shiftLength : s.tap.bsrShift.length = s.board.bsrMap.length
  outLength : s.tap.bsrOut.length = s.board.bsrMap.length
  tdo : s.tap.tdo ≠ .z ↔ s.tap.ctl = .shiftIr ∨ s.tap.ctl = .shiftDr
  taken : s.pinsTaken = true → s.tap.coreNeedsReset = true

/-- The core is free to execute: neither reset, nor without its pins, nor outside real-address mode, with
no move scheduled before it and no event to take. -/
def State.ready (s : State) : Bool :=
  s.schedule.isEmpty && !s.pins.inp.reset && !s.pinsTaken && !s.tap.coreNeedsReset && s.realMode &&
  !s.breakpointArmed && decide (s.run = .running) && s.events.isEmpty

/-- Byte `k` at CS:pc can be fetched and is `b` (R90, R108). -/
def State.fetches (s : State) (k : Nat) (b : Byte) : Prop :=
  s.ip.toNat + k ≤ 0xFFFF ∧
  (s.phys (s.linear .cs (s.ip + BitVec.ofNat 16 k))) ∉ s.dirty ∧
  s.peekByte (s.linear .cs (s.ip + BitVec.ofNat 16 k)) = some b

end Sys2Proof.Machine
end

