-- ==== Sys2Proof/Certificates/Slice0/Obligations.lean ====
section
/-! DEFINITION. The statements for the provers, each with the rules of spec/ it rests on. -/

open Sys2Proof Sys2Proof.Machine

namespace Sys2Proof.Machine

/-! ### Tables: what the rules say of each encoding -/

/-- A source operand. -/
inductive Source where
  | rm (x : Rm)
  | imm (v : Word)
deriving DecidableEq, Repr

/-- What a source operand holds, where a read of it completes. -/
def State.sourceValue (s : State) : Source → Option Word
  | .rm x => s.holdsAt (s.place x)
  | .imm v => some v

/-- The operations of R281 to R289. -/
inductive AluOp where
  | add | or | adc | sbb | and | sub | xor | cmp | test
deriving DecidableEq, Repr

/-- Operation, destination and source of the encodings of R281 to R289. -/
def twoOperand : Instr → Option (AluOp × Rm × Source)
  | .addRmR rm r => some (.add, rm, .rm (.reg r))
  | .addRRm r rm => some (.add, .reg r, .rm rm)
  | .addAxImm v => some (.add, .reg .ax, .imm v)
  | .addRmImm16 rm v => some (.add, rm, .imm v)
  | .addRmImm8 rm v => some (.add, rm, .imm (v.signExtend 16))
  | .orRmR rm r => some (.or, rm, .rm (.reg r))
  | .orRRm r rm => some (.or, .reg r, .rm rm)
  | .orAxImm v => some (.or, .reg .ax, .imm v)
  | .orRmImm16 rm v => some (.or, rm, .imm v)
  | .orRmImm8 rm v => some (.or, rm, .imm (v.signExtend 16))
  | .adcRmR rm r => some (.adc, rm, .rm (.reg r))
  | .adcRRm r rm => some (.adc, .reg r, .rm rm)
  | .adcAxImm v => some (.adc, .reg .ax, .imm v)
  | .adcRmImm16 rm v => some (.adc, rm, .imm v)
  | .adcRmImm8 rm v => some (.adc, rm, .imm (v.signExtend 16))
  | .sbbRmR rm r => some (.sbb, rm, .rm (.reg r))
  | .sbbRRm r rm => some (.sbb, .reg r, .rm rm)
  | .sbbAxImm v => some (.sbb, .reg .ax, .imm v)
  | .sbbRmImm16 rm v => some (.sbb, rm, .imm v)
  | .sbbRmImm8 rm v => some (.sbb, rm, .imm (v.signExtend 16))
  | .andRmR rm r => some (.and, rm, .rm (.reg r))
  | .andRRm r rm => some (.and, .reg r, .rm rm)
  | .andAxImm v => some (.and, .reg .ax, .imm v)
  | .andRmImm16 rm v => some (.and, rm, .imm v)
  | .andRmImm8 rm v => some (.and, rm, .imm (v.signExtend 16))
  | .subRmR rm r => some (.sub, rm, .rm (.reg r))
  | .subRRm r rm => some (.sub, .reg r, .rm rm)
  | .subAxImm v => some (.sub, .reg .ax, .imm v)
  | .subRmImm16 rm v => some (.sub, rm, .imm v)
  | .subRmImm8 rm v => some (.sub, rm, .imm (v.signExtend 16))
  | .xorRmR rm r => some (.xor, rm, .rm (.reg r))
  | .xorRRm r rm => some (.xor, .reg r, .rm rm)
  | .xorAxImm v => some (.xor, .reg .ax, .imm v)
  | .xorRmImm16 rm v => some (.xor, rm, .imm v)
  | .xorRmImm8 rm v => some (.xor, rm, .imm (v.signExtend 16))
  | .cmpRmR rm r => some (.cmp, rm, .rm (.reg r))
  | .cmpRRm r rm => some (.cmp, .reg r, .rm rm)
  | .cmpAxImm v => some (.cmp, .reg .ax, .imm v)
  | .cmpRmImm16 rm v => some (.cmp, rm, .imm v)
  | .cmpRmImm8 rm v => some (.cmp, rm, .imm (v.signExtend 16))
  | .testRmR rm r => some (.test, rm, .rm (.reg r))
  | .testRmImm16 rm v => some (.test, rm, .imm v)
  | _ => none

/-- CMP and TEST write flags alone (R288, R289). -/
def AluOp.writes : AluOp → Bool
  | .cmp => false
  | .test => false
  | _ => true

/-- How many free values the operation takes: AF of the logic operations (R263). -/
def AluOp.free : AluOp → Nat
  | .or => 1
  | .and => 1
  | .xor => 1
  | .test => 1
  | _ => 0

/-- What `LogicFlags(r)` fixes: everything but AF (R263). -/
def Arith.logicOf (x : Arith) (r : Word) : Prop :=
  x.result = r ∧ x.cf = false ∧ x.ovf = false ∧ x.zf = decide (r = 0) ∧ x.sf = r.getLsbD 15 ∧ x.pf = parity8 r

/-- What the rules of R281 to R289 say of result and flags, `c` being CF before. -/
def AluOp.gives (o : AluOp) (c : Bool) (a b : Word) (x : Arith) : Prop :=
  match o with
  | .add => x = addFlags a b false
  | .adc => x = addFlags a b c
  | .sub => x = subFlags a b false
  | .cmp => x = subFlags a b false
  | .sbb => x = subFlags a b c
  | .or => x.logicOf (a ||| b)
  | .and => x.logicOf (a &&& b)
  | .test => x.logicOf (a &&& b)
  | .xor => x.logicOf (a ^^^ b)

/-- The shifts of R298 to R300. -/
inductive ShiftOp where
  | shl | shr | sar
deriving DecidableEq, Repr

/-- Operation, operand and count byte of the encodings of R298 to R300; the count of D1h is 1. -/
def shiftForm : Instr → Option (ShiftOp × Rm × (State → Byte))
  | .shlRmImm8 rm v => some (.shl, rm, fun _ => v)
  | .shlRm1 rm => some (.shl, rm, fun _ => 1)
  | .shlRmCl rm => some (.shl, rm, fun s => s.r8 .cl)
  | .shrRmImm8 rm v => some (.shr, rm, fun _ => v)
  | .shrRm1 rm => some (.shr, rm, fun _ => 1)
  | .shrRmCl rm => some (.shr, rm, fun s => s.r8 .cl)
  | .sarRmImm8 rm v => some (.sar, rm, fun _ => v)
  | .sarRm1 rm => some (.sar, rm, fun _ => 1)
  | .sarRmCl rm => some (.sar, rm, fun s => s.r8 .cl)
  | _ => none

/-- How many free values a shift by at least 1 takes. -/
def ShiftOp.free : ShiftOp → Nat
  | .shl => 3
  | .shr => 3
  | .sar => 2

/-- What R298 to R300 fix of result and flags, for a count of 1 to 31. -/
def ShiftOp.gives (o : ShiftOp) (a : Word) (cnt : Nat) (x : Arith) : Prop :=
  x.zf = decide (x.result = 0) ∧ x.sf = x.result.getLsbD 15 ∧ x.pf = parity8 x.result ∧
  match o with
  | .shl => x.result = BitVec.ofNat 16 (a.toNat * 2 ^ cnt) ∧ (cnt ≤ 15 → x.cf = a.getLsbD (16 - cnt)) ∧
      (cnt = 1 → x.ovf = (x.result.getLsbD 15 ^^ x.cf))
  | .shr => x.result = BitVec.ofNat 16 (a.toNat / 2 ^ cnt) ∧ (cnt ≤ 15 → x.cf = a.getLsbD (cnt - 1)) ∧
      (cnt = 1 → x.ovf = a.getLsbD 15)
  | .sar => x.result = BitVec.ofInt 16 (a.toInt / 2 ^ cnt) ∧ (cnt ≤ 15 → x.cf = a.getLsbD (cnt - 1)) ∧
      (16 ≤ cnt → x.cf = a.getLsbD 15) ∧ (cnt = 1 → x.ovf = false)

/-- Displacement and condition of the sixteen conditional jumps (R114, R309). -/
def jccForm : Instr → Option (Byte × (State → Bool))
  | .jo rel => some (rel, fun s => s.flag .ovf)
  | .jno rel => some (rel, fun s => !s.flag .ovf)
  | .jb rel => some (rel, fun s => s.flag .cf)
  | .jae rel => some (rel, fun s => !s.flag .cf)
  | .je rel => some (rel, fun s => s.flag .zf)
  | .jne rel => some (rel, fun s => !s.flag .zf)
  | .jbe rel => some (rel, fun s => s.flag .cf || s.flag .zf)
  | .ja rel => some (rel, fun s => !s.flag .cf && !s.flag .zf)
  | .js rel => some (rel, fun s => s.flag .sf)
  | .jns rel => some (rel, fun s => !s.flag .sf)
  | .jp rel => some (rel, fun s => s.flag .pf)
  | .jnp rel => some (rel, fun s => !s.flag .pf)
  | .jl rel => some (rel, fun s => s.flag .sf != s.flag .ovf)
  | .jge rel => some (rel, fun s => s.flag .sf == s.flag .ovf)
  | .jle rel => some (rel, fun s => s.flag .zf || s.flag .sf != s.flag .ovf)
  | .jg rel => some (rel, fun s => !s.flag .zf && s.flag .sf == s.flag .ovf)
  | _ => none

/-- The five instructions of the TAP (R240). -/
def tapInstr : Instr → Bool
  | .extest => true
  | .samplePreload => true
  | .idcode => true
  | .highz => true
  | .bypass => true
  | _ => false

/-- The instructions that never transfer control: all but the jumps, CALL, RET, LOOP, INT, INT3, IRET and
those of the TAP. -/
def straightLine : Instr → Bool
  | .jo _ | .jno _ | .jb _ | .jae _ | .je _ | .jne _ | .jbe _ | .ja _ | .js _ | .jns _ | .jp _ | .jnp _
  | .jl _ | .jge _ | .jle _ | .jg _ | .jmpRel8 _ | .jmpRel16 _ | .jmpFar _ _ | .callRel16 _ | .ret
  | .loop _ | .intImm8 _ | .int3 | .iret => false
  | i => !tapInstr i

/-- The r/m operand an instruction has, with R116's invalid segment numbers left out. -/
def rmOperand (i : Instr) : Option Rm :=
  match twoOperand i with
  | some (_, .reg _, .rm rm) => some rm
  | some (_, rm, _) => some rm
  | none =>
    match shiftForm i with
    | some (_, rm, _) => some rm
    | none =>
      match i with
      | .notRm rm => some rm
      | .negRm rm => some rm
      | .mulRm rm => some rm
      | .imulRm rm => some rm
      | .divRm rm => some rm
      | .idivRm rm => some rm
      | .movRmR rm _ => some rm
      | .movRRm _ rm => some rm
      | .movRmImm16 rm _ => some rm
      | .movAxMoffs off => some (.direct off)
      | .movMoffsAx off => some (.direct off)
      | .movRmSreg rm (.seg _) => some rm
      | .movSregRm (.seg .cs) _ => none
      | .movSregRm (.seg _) rm => some rm
      | _ => none

/-- The registers an instruction that does not transfer control writes. -/
def writtenRegs (i : Instr) : List Reg :=
  match twoOperand i with
  | some (o, .reg r, _) => if o.writes then [r] else []
  | some _ => []
  | none =>
    match shiftForm i with
    | some (_, .reg r, _) => [r]
    | some _ => []
    | none =>
      match i with
      | .incR r => [r]
      | .decR r => [r]
      | .notRm (.reg r) => [r]
      | .negRm (.reg r) => [r]
      | .mulRm _ => [.ax, .dx]
      | .imulRm _ => [.ax, .dx]
      | .divRm _ => [.ax, .dx]
      | .idivRm _ => [.ax, .dx]
      | .movRmR (.reg r) _ => [r]
      | .movRRm r _ => [r]
      | .movRmImm16 (.reg r) _ => [r]
      | .movRmSreg (.reg r) _ => [r]
      | .movR8Imm8 r _ => [(homeOf r).1]
      | .movRImm16 r _ => [r]
      | .movAxMoffs _ => [.ax]
      | .pushR _ => [.sp]
      | .popR r => [.sp, r]
      | .inAlImm8 _ => [.ax]
      | .inAlDx => [.ax]
      | .inAxDx => [.ax]
      | .rdtsc => [.ax, .dx]
      | _ => []

/-- The flags such an instruction may write (R340). -/
def writtenFlags (i : Instr) : List Flag :=
  match twoOperand i with
  | some _ => [.cf, .pf, .af, .zf, .sf, .ovf]
  | none =>
    match shiftForm i with
    | some _ => [.cf, .pf, .af, .zf, .sf, .ovf]
    | none =>
      match i with
      | .incR _ => [.pf, .af, .zf, .sf, .ovf]
      | .decR _ => [.pf, .af, .zf, .sf, .ovf]
      | .negRm _ => [.cf, .pf, .af, .zf, .sf, .ovf]
      | .mulRm _ => [.cf, .pf, .af, .zf, .sf, .ovf]
      | .imulRm _ => [.cf, .pf, .af, .zf, .sf, .ovf]
      | .divRm _ => [.cf, .pf, .af, .zf, .sf, .ovf]
      | .idivRm _ => [.cf, .pf, .af, .zf, .sf, .ovf]
      | .clc => [.cf]
      | .stc => [.cf]
      | .cmc => [.cf]
      | .cli => [.intf]
      | .sti => [.intf]
      | .cld => [.df]
      | .std => [.df]
      | _ => []

/-- The place such an instruction stores its result to, where it has one in memory or a register. -/
def State.target (s : State) (i : Instr) : Option Place :=
  match twoOperand i with
  | some (o, rm, _) => if o.writes then some (s.place rm) else none
  | none =>
    match shiftForm i with
    | some (_, rm, _) => some (s.place rm)
    | none =>
      match i with
      | .notRm rm => some (s.place rm)
      | .negRm rm => some (s.place rm)
      | .movRmR rm _ => some (s.place rm)
      | .movRmImm16 rm _ => some (s.place rm)
      | .movMoffsAx off => some (.mem .ds off)
      | .movRmSreg rm _ => some (s.place rm)
      | .pushR _ => some (.mem .ss (s.slotBelow 1))
      | _ => none

/-- The physical addresses such an instruction stores to. -/
def State.storedBy (s : State) (i : Instr) : List Nat :=
  match s.target i with
  | some p => s.stores p
  | none => []

/-- The places such an instruction reads. -/
def State.readBy (s : State) (i : Instr) : List Place :=
  match twoOperand i with
  | some (_, rm, .rm src) => [s.place rm, s.place src]
  | some (_, rm, .imm _) => [s.place rm]
  | none =>
    match shiftForm i with
    | some (_, rm, _) => [s.place rm]
    | none =>
      match i with
      | .notRm rm => [s.place rm]
      | .negRm rm => [s.place rm]
      | .mulRm rm => [s.place rm]
      | .imulRm rm => [s.place rm]
      | .divRm rm => [s.place rm]
      | .idivRm rm => [s.place rm]
      | .movRRm _ rm => [s.place rm]
      | .movAxMoffs off => [.mem .ds off]
      | .movSregRm _ rm => [s.place rm]
      | .popR _ => [.mem .ss (s.slotAbove 0)]
      | _ => []

/-- The operands do not make the instruction raise UD or DE (R116, R296, R297). -/
def State.defined (s : State) : Instr → Bool
  | .divRm rm =>
    match s.holdsAt (s.place rm) with
    | some d => (divide s.dividend d).isSome
    | none => false
  | .idivRm rm =>
    match s.holdsAt (s.place rm) with
    | some d => (divideSigned s.dividend d).isSome
    | none => false
  | .movSregRm (.seg .cs) _ => false
  | .movSregRm .six _ => false
  | .movSregRm .seven _ => false
  | .movRmSreg _ .six => false
  | .movRmSreg _ .seven => false
  | _ => true

/-- The ports IN reads, the second one modulo 2^16 (R76, R326). -/
def State.portsRead (s : State) : Instr → List Word
  | .inAlImm8 p => [p.setWidth 16]
  | .inAlDx => [s.r16 .dx]
  | .inAxDx => [s.r16 .dx, s.r16 .dx + 1]
  | _ => []

/-- The ports OUT writes (R76, R327). -/
def State.portsWritten (s : State) : Instr → List Word
  | .outImm8Al p => [p.setWidth 16]
  | .outDxAl => [s.r16 .dx]
  | .outDxAx => [s.r16 .dx, s.r16 .dx + 1]
  | _ => []

/-- The platform answers the port accesses of an instruction (R74 to R76). -/
def State.portsAnswer (s : State) (i : Instr) : Bool :=
  (s.portsRead i).all s.board.portAnswers && (s.portsWritten i).all s.board.portAccepts

/-- An instruction that does not transfer control runs to its end: it fits, TF is clear, every place it
reads holds a value, its target takes one, its ports answer, and it raises nothing. -/
def State.runs (s : State) (i : Instr) : Bool :=
  straightLine i && s.mayFinish i && s.defined i && s.portsAnswer i &&
  (s.readBy i).all (fun p => (s.holdsAt p).isSome) &&
  (match s.target i with
    | some p => s.takes p
    | none => true)

/-- The segment register such an instruction loads. -/
def loadedSeg : Instr → Option Sreg
  | .movSregRm (.seg r) _ => some r
  | _ => none

/-- The instructions that may transfer control (R305 to R315). -/
def transfers (i : Instr) : Bool := !straightLine i && !tapInstr i

/-- A conditional transfer that is not taken: Jcc whose condition fails, LOOP with CX = 1 (R309, R312). -/
def State.notTaken (s : State) (i : Instr) : Bool :=
  match jccForm i with
  | some (_, cond) => !cond s
  | none =>
    match i with
    | .loop _ => decide (s.r16 .cx = 1)
    | _ => false

/-- A jump, CALL, RET or LOOP reaches its end with no exception (R305 to R312). -/
def State.goes (s : State) (i : Instr) : Bool :=
  match jccForm i with
  | some (rel, cond) => if cond s then s.inLimit .cs (s.nextIp i + sext16 rel) 1 else !s.pastLimit i
  | none =>
    match i with
    | .jmpRel8 rel => s.inLimit .cs (s.nextIp i + sext16 rel) 1
    | .jmpRel16 rel => s.inLimit .cs (s.nextIp i + rel) 1
    | .jmpFar _ off => s.inLimit .cs off 1
    | .callRel16 rel => !s.pastLimit i && s.slotFree 1 && s.inLimit .cs (s.nextIp i + rel) 1
    | .ret =>
      match s.holdsAt (.mem .ss (s.r16 .sp)) with
      | some t => s.inLimit .cs t 1
      | none => false
    | .loop rel =>
      if s.r16 .cx = 1 then !s.pastLimit i else s.inLimit .cs (s.nextIp i + sext16 rel) 1
    | _ => false

/-- What a read of one byte answers and leaves: what RAM or ROM holds, or the platform's next answer from a volatile
region (R74, R86). -/
def State.byteRead (s : State) (lin : Dword) : Option (Byte × State) :=
  match s.board.kindAt (s.phys lin) with
  | .volatile => some (loByte s.answer.1, s.answer.2.see (.memRead (s.phys lin) (loByte s.answer.1)))
  | _ => (s.peekByte lin).map fun v => (v, s)

/-- What a read of a word answers and leaves, the low byte read first. -/
def State.wordRead (s : State) (lin : Dword) : Option (Word × State) := do
  let (lo, t) ← s.byteRead lin
  let (hi, u) ← t.byteRead (lin + 1)
  return (joinBytes lo hi, u)

/-- What a store of one byte that completes leaves: the byte in RAM, or handed to the platform by a volatile region or
one that drops it (R75). -/
def State.byteStored (s : State) (lin : Dword) (v : Byte) : State :=
  if s.board.kindAt (s.phys lin) = .ram then s.poke (s.phys lin) v
  else { s with
    trace := s.trace ++ [.memWrite (s.phys lin) v]
    dirty := setInsert s.dirty (s.phys lin) }

/-- What a store of a word that completes leaves. -/
def State.wordStored (s : State) (lin : Dword) (v : Word) : State :=
  (s.byteStored lin (v.setWidth 8)).byteStored (lin + 1) ((v >>> 8).setWidth 8)

/-- The linear address of the entry of vector `n` (R366). -/
def State.vectorAt (s : State) (n : Byte) : Dword := s.sys.idtr.base + BitVec.ofNat 32 (4 * n.toNat)

/-- A store to the stack slot `k` items below SP completes. -/
def State.takesSlot (s : State) (k : Nat) : Bool :=
  s.accepted (s.linear .ss (s.slotBelow k)) && s.accepted (s.linear .ss (s.slotBelow k) + 1)

/-- As many TCK periods as the list is long, with TMS at one level and no other pin changing at an edge. -/
def tapRun (tms : Bool) : List Bool → State → Host.Outcome State Fault Refusal
  | [], s => .next s
  | tdi :: rest, s =>
    match tapCycle tms tdi [] s with
    | .next t => tapRun tms rest t
    | .fault f => .fault f
    | .refused r => .refused r

end Sys2Proof.Machine

/-! ### Encoding -/

/-- Words written out from R107, R110, R112 and R101 decode to the instruction each stands for. The code of
SAMPLE/PRELOAD is the expected value (log 5). -/
def Obligations.DecodeWrittenWords : Prop :=
  decodeBytes [0x01, 0xD8] = .instr (.addRmR (.reg .ax) .bx) [] ∧
  decodeBytes [0x83, 0x06, 0x00, 0x10, 0x01] = .instr (.addRmImm8 (.direct 0x1000) 1) [] ∧
  decodeBytes [0x89, 0x47, 0x02] = .instr (.movRmR (.based .bx (.d8 2)) .ax) [] ∧
  decodeBytes [0x8E, 0xD0] = .instr (.movSregRm (.seg .ss) (.reg .ax)) [] ∧
  decodeBytes [0xC1, 0x26, 0x00, 0x10, 0x04] = .instr (.shlRmImm8 (.direct 0x1000) 4) [] ∧
  decodeBytes [0xEA, 0x00, 0x01, 0x00, 0x10] = .instr (.jmpFar 0x1000 0x0100) [] ∧
  decodeBytes [0x75, 0x10, 0x90] = .instr (.jne 0x10) [0x90] ∧
  decodeBytes [0xF7, 0xFB] = .instr (.idivRm (.reg .bx)) [] ∧
  decodeBytes [0x0F, 0x31] = .instr .rdtsc [] ∧
  decodeIr .expected [true, false, false, false, false] = some .samplePreload

/-- Decoding the words of a well-formed instruction gives it back, whatever follows them, and whatever the codes
of the TAP are, as long as they meet D16 (R101, R106 to R110, R112, R113). -/
def Obligations.DecodeOfEncode : Prop :=
  ∀ (p : TapCodes) (i : Instr) (rest : List Byte), p.wf = true → i.wellFormed = true →
    match encode p i with
    | .bytes bs => decodeBytes (bs ++ rest) = .instr i rest
    | .irCode c => decodeIr p c = some i

/-- What decodes to an instruction is that instruction's own encoding, followed by what is left: no bit
of the bytes taken is ignored, and the instruction is well formed (R106 to R113). The decoder is total: six
bytes always suffice for an instruction or a refusal by name (R105, R108). -/
def Obligations.DecodedBytesAreItsEncoding : Prop :=
  (∀ (p : TapCodes) (bs rest : List Byte) (i : Instr), decodeBytes bs = .instr i rest →
    i.wellFormed = true ∧ encode p i = .bytes i.bytes ∧ bs = i.bytes ++ rest) ∧
  ∀ bs : List Byte, 6 ≤ bs.length →
    (∃ i rest, decodeBytes bs = .instr i rest ∧ bs.length ≤ rest.length + 6) ∨
    (∃ n, decodeBytes bs = .refused n)

/-! ### Step -/

/-- Where the bytes at CS:pc decode to `i`, a step of a core that is free to run is `exec i`, after which the
output pins take unspecified levels (R108, R260). The free levels of the outputs are the model's choice (log
10). -/
def Obligations.StepRunsDecoded : Prop :=
  ∀ (s : State) (i : Instr) (bs : List Byte), s.ready = true → decodeBytes bs = .instr i [] →
    (∀ (k : Nat) (h : k < bs.length), s.fetches k bs[k]) → step s = settle (exec i s)

/-- A fetch takes bytes only as far as the decoder needs them. Where the next one it needs was stored since the
last taken transfer the step is `fault(stale_fetch)`, and where it lies past FFFFh `fault(fetch_past_limit)`,
whatever byte of the instruction it is (R90, R108). That `dirty_code` holds physical addresses, and that it is looked
at before whether anything answers, is the model's choice (log 38). -/
def Obligations.NeededByteFaults : Prop :=
  ∀ (s : State) (got : List Byte), s.ready = true → decodeBytes got = .more →
    (∀ (k : Nat) (h : k < got.length), s.fetches k got[k]) →
    (0xFFFF < s.ip.toNat + got.length → step s = .fault .fetchPastLimit) ∧
    (s.ip.toNat + got.length ≤ 0xFFFF →
      s.phys (s.linear .cs (s.ip + BitVec.ofNat 16 got.length)) ∈ s.dirty →
      step s = .fault (.staleFetch (s.phys (s.linear .cs (s.ip + BitVec.ofNat 16 got.length)))))

/-- `dirty_code` gains exactly the bytes an instruction stores, and a taken transfer or a trap entry empties it; a
Jcc or LOOP not taken keeps it (R90, R265). That it holds physical addresses is the model's choice (log 38). -/
def Obligations.StoresMarkCodeUntilJump : Prop :=
  (∀ (i : Instr) (s t : State), s.runs i = true → exec i s = .next t →
    ∀ a, a ∈ t.dirty ↔ a ∈ s.dirty ∨ a ∈ s.storedBy i) ∧
  (∀ (i : Instr) (s t : State), transfers i = true → exec i s = .next t → t.run = .running →
    (s.notTaken i = false → t.dirty = []) ∧ (s.notTaken i = true → t.dirty = s.dirty)) ∧
  (∀ (n : Byte) (c : Bool) (rip : Word) (s t : State), deliver n c rip s = .next t → t.run = .running →
    t.dirty = [])

/-- An instruction whose `next_ip` is past FFFFh is `fault(fetch_past_limit)` where it falls through or saves it:
one that does not transfer control, a Jcc or LOOP not taken, CALL, INT n and INT3 (R41, R108); a jump may wrap
there (R305, log 17). One that ends with TF set is `refuse(debug_trap)` (R265, R364). That the fault is looked at before
the operands is the model's choice (log 16). -/
def Obligations.FallThroughStops : Prop :=
  (∀ (i : Instr) (s : State), s.pastLimit i = true →
    straightLine i = true ∨ s.notTaken i = true ∨ (∃ rel, i = .callRel16 rel) ∨ (∃ n, i = .intImm8 n) ∨ i = .int3 →
    exec i s = .fault .fetchPastLimit) ∧
  (∀ (i : Instr) (s : State), s.flag .tf = true → (s.setFlag .tf false).runs i = true →
    exec i s = .refused .debugTrap) ∧
  (∀ (i : Instr) (s : State), s.flag .tf = true → s.goes i = true → exec i s = .refused .debugTrap)

/-- Every instruction that does not transfer control and may run does run to `next_ip`, and changes
nothing but the registers, flags, segment register and bytes of memory its rule names: memory outside
the bytes its own operand or stack slot covers reads as before, `dirty_code` grows only by a store, and only IN
and OUT take an answer of the platform or are seen by it (R76, R90, R260, R265, R340). How answers and accesses are
kept is the model's choice (logs 8, 9). -/
def Obligations.StraightLineFrame : Prop :=
  ∀ (i : Instr) (s : State), s.runs i = true → ∃ t, exec i s = .next t ∧
    t.eip = zext32 (s.nextIp i) ∧
    (∀ r, r ∉ writtenRegs i → t.r32 r = s.r32 r) ∧
    (∀ r, i ≠ .rdtsc → (t.r32 r).extractLsb' 16 16 = (s.r32 r).extractLsb' 16 16) ∧
    (∀ f, f ∉ writtenFlags i → t.flag f = s.flag f) ∧
    t.eflags.iopl = s.eflags.iopl ∧ t.eflags.nt = s.eflags.nt ∧ t.eflags.rf = s.eflags.rf ∧
    t.eflags.vm = s.eflags.vm ∧ t.eflags.vif = s.eflags.vif ∧ t.eflags.vip = s.eflags.vip ∧
    t.eflags.idf = s.eflags.idf ∧
    (∀ r, loadedSeg i ≠ some r → t.seg r = s.seg r) ∧
    (∀ r, (t.seg r).limit = (s.seg r).limit ∧ (t.seg r).attrs = (s.seg r).attrs) ∧
    (∀ a, a ∉ s.storedBy i → Memory.get t.mem a = Memory.get s.mem a) ∧
    (s.storedBy i = [] → t.dirty = s.dirty) ∧ (s.portsRead i = [] → t.answers = s.answers) ∧
    (s.portsRead i = [] → s.portsWritten i = [] → t.trace = s.trace) ∧
    (i ≠ .hlt → t.run = s.run) ∧ (i ≠ .rdtsc → t.tsc = s.tsc) ∧
    t.latch = { s.latch with shadow := t.latch.shadow } ∧
    (i ≠ .sti → (∀ rm, i ≠ .movSregRm (.seg .ss) rm) → t.latch.shadow = .none) ∧
    s.sameRest t

/-! ### Arithmetic, logic, shifts -/

/-- The forty-two encodings of ADD to CMP and TEST: the result goes to the destination, once located (CMP and
TEST write none), and the flags are those of R281 to R289. AF of the logic operations is the next free value
(log 1). -/
def Obligations.TwoOperandResult : Prop :=
  ∀ (i : Instr) (o : AluOp) (dst : Rm) (src : Source) (a b : Word) (s : State),
    twoOperand i = some (o, dst, src) → s.holdsAt (s.place dst) = some a → s.sourceValue src = some b →
    (o.writes = true → s.takes (s.place dst) = true) → s.mayFinish i = true →
    ∃ x, o.gives (s.flag .cf) a b x ∧
      exec i s = .next
        ((((if o.writes then s.put (s.place dst) x.result else s).setArith x).drew o.free).atEnd i)

/-- `AddFlags`, `SubFlags` and the tests of R263 in arithmetic: CF is the carry or borrow out of 16 bits,
OF a signed result out of range, AF the carry or borrow out of bit 3. `LogicFlags` clears CF and OF. In all
three ZF, SF and PF (even parity of the low byte) are those of the result. -/
def Obligations.ArithmeticFlagsMeaning : Prop :=
  ∀ (a b : Word) (c : Bool),
    (addFlags a b c).result = a + b + BitVec.ofNat 16 c.toNat ∧
    (addFlags a b c).cf = decide (2 ^ 16 ≤ a.toNat + b.toNat + c.toNat) ∧
    (addFlags a b c).af = decide (16 ≤ a.toNat % 16 + b.toNat % 16 + c.toNat) ∧
    (addFlags a b c).ovf = decide (a.toInt + b.toInt + c.toNat < -2 ^ 15 ∨ 2 ^ 15 ≤ a.toInt + b.toInt + c.toNat) ∧
    (subFlags a b c).result = a - b - BitVec.ofNat 16 c.toNat ∧
    (subFlags a b c).cf = decide (a.toNat < b.toNat + c.toNat) ∧
    (subFlags a b c).af = decide (a.toNat % 16 < b.toNat % 16 + c.toNat) ∧
    (subFlags a b c).ovf = decide (a.toInt - b.toInt - c.toNat < -2 ^ 15 ∨ 2 ^ 15 ≤ a.toInt - b.toInt - c.toNat) ∧
    (logicFlags a c).result = a ∧ (logicFlags a c).cf = false ∧ (logicFlags a c).ovf = false ∧
    ∀ x ∈ [addFlags a b c, subFlags a b c, logicFlags a c],
      x.zf = decide (x.result = 0) ∧ x.sf = x.result.getLsbD 15 ∧
      x.pf = decide (((List.range 8).countP fun k => x.result.getLsbD k) % 2 = 0)

/-- INC and DEC: one byte each, result and flags of adding or subtracting 1, CF kept (R290, R291). -/
def Obligations.IncDecResult : Prop :=
  ∀ (r : Reg) (s : State),
    decodeBytes [0x40#8 + r.code.setWidth 8] = .instr (.incR r) [] ∧
    decodeBytes [0x48#8 + r.code.setWidth 8] = .instr (.decR r) [] ∧
    (s.mayFinish (.incR r) = true → exec (.incR r) s = .next
      (((s.setR16 r (s.r16 r + 1)).setArith
        { addFlags (s.r16 r) 1 false with cf := s.flag .cf }).atEnd (.incR r))) ∧
    (s.mayFinish (.decR r) = true → exec (.decR r) s = .next
      (((s.setR16 r (s.r16 r - 1)).setArith
        { subFlags (s.r16 r) 1 false with cf := s.flag .cf }).atEnd (.decR r)))

/-- NOT complements and changes no flag; NEG subtracts from 0 and sets CF unless the operand is 0
(R292, R293). -/
def Obligations.NotNegResult : Prop :=
  ∀ (rm : Rm) (a : Word) (s : State), s.holdsAt (s.place rm) = some a → s.takes (s.place rm) = true →
    (s.mayFinish (.notRm rm) = true →
      exec (.notRm rm) s = .next ((s.put (s.place rm) (~~~a)).atEnd (.notRm rm))) ∧
    (s.mayFinish (.negRm rm) = true →
      exec (.negRm rm) s = .next (((s.put (s.place rm) (-a)).setArith (subFlags 0 a false)).atEnd (.negRm rm)) ∧
      (subFlags 0 a false).cf = decide (a ≠ 0) ∧ (subFlags 0 a false).ovf = decide (a = 0x8000))

/-- MUL and IMUL: the 32-bit product in DX:AX, CF and OF telling whether DX matters, SF, ZF, AF and PF free. DIV
and IDIV with a divisor other than 0 and a quotient that fits: quotient in AX, remainder in DX, all six flags
free (R294 to R297). The free flags are the next four or six free values (log 1). -/
def Obligations.MultiplyDivideResult : Prop :=
  ∀ (rm : Rm) (b : Word) (s : State), s.holdsAt (s.place rm) = some b →
    (s.mayFinish (.mulRm rm) = true → ∃ x : Arith,
      x.cf = decide (2 ^ 16 ≤ (s.r16 .ax).toNat * b.toNat) ∧ x.ovf = x.cf ∧
      exec (.mulRm rm) s = .next (((((s.setR16 .ax (BitVec.ofNat 16 ((s.r16 .ax).toNat * b.toNat))).setR16 .dx
        (BitVec.ofNat 16 ((s.r16 .ax).toNat * b.toNat / 2 ^ 16))).setArith x).drew 4).atEnd (.mulRm rm))) ∧
    (s.mayFinish (.imulRm rm) = true → ∃ x : Arith,
      x.cf = decide ((s.r16 .ax).toInt * b.toInt < -2 ^ 15 ∨ 2 ^ 15 ≤ (s.r16 .ax).toInt * b.toInt) ∧
      x.ovf = x.cf ∧
      exec (.imulRm rm) s = .next (((((s.setR16 .ax (BitVec.ofInt 16 ((s.r16 .ax).toInt * b.toInt))).setR16 .dx
        (BitVec.ofInt 16 ((s.r16 .ax).toInt * b.toInt / 2 ^ 16))).setArith x).drew 4).atEnd (.imulRm rm))) ∧
    (s.mayFinish (.divRm rm) = true → b ≠ 0 → s.dividend.toNat / b.toNat ≤ 0xFFFF → ∃ x : Arith,
      exec (.divRm rm) s = .next (((((s.setR16 .ax (BitVec.ofNat 16 (s.dividend.toNat / b.toNat))).setR16 .dx
        (BitVec.ofNat 16 (s.dividend.toNat % b.toNat))).setArith x).drew 6).atEnd (.divRm rm))) ∧
    (s.mayFinish (.idivRm rm) = true → b ≠ 0 → s.dividend.toInt.tdiv b.toInt ≤ 0x7FFF →
      -0x8000 ≤ s.dividend.toInt.tdiv b.toInt → ∃ x : Arith,
      exec (.idivRm rm) s = .next (((((s.setR16 .ax (BitVec.ofInt 16 (s.dividend.toInt.tdiv b.toInt))).setR16 .dx
        (BitVec.ofInt 16 (s.dividend.toInt.tmod b.toInt))).setArith x).drew 6).atEnd (.idivRm rm)))

/-- DIV and IDIV by 0, or with a quotient out of range, take the divide error: vector 0, the saved IP
that of the instruction itself, AX and DX as they were (R296, R297, R361). -/
def Obligations.DivideErrorTaken : Prop :=
  ∀ (rm : Rm) (d : Word) (s : State), s.holdsAt (s.place rm) = some d → s.canEnter 0 = true →
    (s.pastLimit (.divRm rm) = false → (d = 0 ∨ 0xFFFF < s.dividend.toNat / d.toNat) →
      exec (.divRm rm) s = .next (s.entered 0 s.ip)) ∧
    (s.pastLimit (.idivRm rm) = false →
      (d = 0 ∨ 0x7FFF < s.dividend.toInt.tdiv d.toInt ∨ s.dividend.toInt.tdiv d.toInt < -0x8000) →
      exec (.idivRm rm) s = .next (s.entered 0 s.ip)) ∧
    (s.entered 0 s.ip).r16 .ax = s.r16 .ax ∧ (s.entered 0 s.ip).r16 .dx = s.r16 .dx

/-- SHL, SHR and SAR: the count is masked to five bits; 0 writes the operand back and changes no flag; 1 to 31
give the result and the flags of R298 to R300. The write-back at count 0 is the model's reading (log 42); free
flags are the next free values (log 1). -/
def Obligations.ShiftResult : Prop :=
  ∀ (i : Instr) (o : ShiftOp) (rm : Rm) (count : State → Byte) (a : Word) (s : State),
    shiftForm i = some (o, rm, count) → s.holdsAt (s.place rm) = some a → s.takes (s.place rm) = true →
    s.mayFinish i = true →
    ((count s).toNat % 32 = 0 → exec i s = .next ((s.put (s.place rm) a).atEnd i)) ∧
    ((count s).toNat % 32 ≠ 0 → ∃ x, o.gives a ((count s).toNat % 32) x ∧
      exec i s = .next ((((s.put (s.place rm) x.result).setArith x).drew o.free).atEnd i))

/-! ### Data movement and stack -/

/-- MOV to a register or to memory: the source goes to the destination and nothing else (R270 to R276,
R278). -/
def Obligations.MoveResult : Prop :=
  ∀ (s : State) (rm : Rm) (r : Reg) (r8 : Reg8) (sr : Sreg) (b : Byte) (v w : Word),
    (s.mayFinish (.movR8Imm8 r8 b) = true →
      exec (.movR8Imm8 r8 b) s = .next ((s.setR8 r8 b).atEnd (.movR8Imm8 r8 b))) ∧
    (s.mayFinish (.movRImm16 r v) = true →
      exec (.movRImm16 r v) s = .next ((s.setR16 r v).atEnd (.movRImm16 r v))) ∧
    (s.mayFinish (.movRmR rm r) = true → s.takes (s.place rm) = true →
      exec (.movRmR rm r) s = .next ((s.put (s.place rm) (s.r16 r)).atEnd (.movRmR rm r))) ∧
    (s.mayFinish (.movRRm r rm) = true → s.holdsAt (s.place rm) = some w →
      exec (.movRRm r rm) s = .next ((s.setR16 r w).atEnd (.movRRm r rm))) ∧
    (s.mayFinish (.movAxMoffs v) = true → s.holdsAt (.mem .ds v) = some w →
      exec (.movAxMoffs v) s = .next ((s.setR16 .ax w).atEnd (.movAxMoffs v))) ∧
    (s.mayFinish (.movMoffsAx v) = true → s.takes (.mem .ds v) = true →
      exec (.movMoffsAx v) s = .next ((s.put (.mem .ds v) (s.r16 .ax)).atEnd (.movMoffsAx v))) ∧
    (s.mayFinish (.movRmImm16 rm v) = true → s.takes (s.place rm) = true →
      exec (.movRmImm16 rm v) s = .next ((s.put (s.place rm) v).atEnd (.movRmImm16 rm v))) ∧
    (s.mayFinish (.movRmSreg rm (.seg sr)) = true → s.takes (s.place rm) = true →
      exec (.movRmSreg rm (.seg sr)) s =
        .next ((s.put (s.place rm) (s.seg sr).sel).atEnd (.movRmSreg rm (.seg sr))))

/-- MOV to a segment register other than CS loads selector and base; a load of SS sets the shadow that holds
off interrupts, surely where none stood and freely where the instruction before set it or was itself such a load
(R43, R277). 8Eh with CS, and 8Ch and 8Eh with the numbers 6 and 7, raise UD: vector 6, the saved IP that of the
instruction itself, before any operand is touched (R116, R277, R278, R365). That the shadow keeps its cause, and
that a load which drew 0 is remembered, is the model's choice (log 13). -/
def Obligations.LoadSegmentResult : Prop :=
  (∀ (s : State) (rm : Rm) (sr : Sreg) (v : Word), sr ≠ .cs → s.holdsAt (s.place rm) = some v →
    s.mayFinish (.movSregRm (.seg sr) rm) = true →
    (sr ≠ .ss → exec (.movSregRm (.seg sr) rm) s =
      .next ((s.loadSeg sr v).atEnd (.movSregRm (.seg sr) rm))) ∧
    (sr = .ss → s.latch.shadow = .none → exec (.movSregRm (.seg sr) rm) s =
      .next (((s.loadSeg sr v).atEnd (.movSregRm (.seg sr) rm)).setShadow .movSs)) ∧
    (sr = .ss → s.latch.shadow ≠ .none → ∃ h : Shadow, (h = .spent ∨ h = .movSs) ∧
      exec (.movSregRm (.seg sr) rm) s =
        .next ((((s.loadSeg sr v).drew 1).atEnd (.movSregRm (.seg sr) rm)).setShadow h)) ∧
    ((s.loadSeg sr v).seg sr).sel = v ∧ ((s.loadSeg sr v).seg sr).base.toNat = 16 * v.toNat ∧
    ((s.loadSeg sr v).seg sr).limit = (s.seg sr).limit ∧ ((s.loadSeg sr v).seg sr).attrs = (s.seg sr).attrs) ∧
  (∀ s : State, (s.setShadow .movSs).intShadow = true ∧ (s.setShadow .spent).intShadow = false) ∧
  ∀ (s : State) (rm : Rm) (f : SregField) (i : Instr),
    (i = .movSregRm f rm ∧ (f = .seg .cs ∨ f = .six ∨ f = .seven)) ∨
      (i = .movRmSreg rm f ∧ (f = .six ∨ f = .seven)) →
    s.pastLimit i = false → s.canEnter 6 = true → exec i s = .next (s.entered 6 s.ip)

/-- PUSH stores the register as it was at the slot below SP; POP reads the slot at SP, and POP SP ends
with the value popped (R264, R279, R280). -/
def Obligations.PushPopResult : Prop :=
  ∀ (s : State) (r : Reg) (v : Word),
    (s.mayFinish (.pushR r) = true → s.slotFree 1 = true →
      exec (.pushR r) s = .next
        (((s.pokeWord (s.linear .ss (s.r16 .sp - 2)) (s.r16 r)).setR16 .sp (s.r16 .sp - 2)).atEnd (.pushR r))) ∧
    (s.mayFinish (.popR r) = true → s.holdsAt (.mem .ss (s.r16 .sp)) = some v →
      exec (.popR r) s = .next (((s.setR16 .sp (s.r16 .sp + 2)).setR16 r v).atEnd (.popR r)))

/-- A memory operand whose second byte passes the segment's limit raises SS for a place in SS and GP for
any other, with the saved IP that of the instruction and nothing else done (R79, R111, R341). So does a stack slot
of POP, RET or IRET that passes the limit of SS; where a slot of PUSH or CALL does, the entry that follows needs
the same slot and fails, and the core shuts down with its registers as they were (R264, R310, R311, R315, R366,
R372). The record of the shutdown cycle is the model's own (log 9), the failed second entry as in log 19. -/
def Obligations.LimitViolationTaken : Prop :=
  (∀ (i : Instr) (rm : Rm) (s : State) (sg : Sreg) (off : Word), rmOperand i = some rm →
    s.place rm = .mem sg off → (s.seg sg).limit.toNat < off.toNat + 1 → s.pastLimit i = false →
    (sg = .ss → s.canEnter 12 = true → exec i s = .next (s.entered 12 s.ip)) ∧
    (sg ≠ .ss → s.canEnter 13 = true → exec i s = .next (s.entered 13 s.ip))) ∧
  (∀ (s : State) (r : Reg), s.canEnter 12 = true →
    (s.inLimit .ss (s.r16 .sp) 2 = false → s.pastLimit (.popR r) = false →
      exec (.popR r) s = .next (s.entered 12 s.ip)) ∧
    (s.inLimit .ss (s.r16 .sp) 2 = false → exec .ret s = .next (s.entered 12 s.ip)) ∧
    (s.inLimit .ss (s.r16 .sp) 2 = false ∨ s.inLimit .ss (s.r16 .sp + 2) 2 = false ∨
      s.inLimit .ss (s.r16 .sp + 4) 2 = false → exec .iret s = .next (s.entered 12 s.ip))) ∧
  ∀ (s : State) (r : Reg) (rel : Word), s.inLimit .ss (s.r16 .sp - 2) 2 = false →
    (s.pastLimit (.pushR r) = false → exec (.pushR r) s =
      .next { s with run := .shutdown, trace := s.trace ++ [.shutdownCycle] }) ∧
    (s.pastLimit (.callRel16 rel) = false → s.inLimit .cs (s.nextIp (.callRel16 rel) + rel) 1 = true →
      exec (.callRel16 rel) s = .next { s with run := .shutdown, trace := s.trace ++ [.shutdownCycle] })

/-! ### Control transfer -/

/-- JMP: the target of the relative forms is `next_ip` plus the displacement modulo 2^16, the far form
also loads CS; a taken transfer leaves no shadow and no `dirty_code`. Jcc goes to its target where its condition
holds and to `next_ip`, keeping `dirty_code`, where it does not (R114, R305 to R309). That a taken jump whose
`next_ip` passes FFFFh takes it into the sum of R305 and does not fault is read from R41 and R108 (log 17). -/
def Obligations.JumpResult : Prop :=
  (∀ (s : State) (rel8 : Byte) (rel16 seg off : Word), s.flag .tf = false →
    (s.inLimit .cs (s.nextIp (.jmpRel8 rel8) + sext16 rel8) 1 = true →
      exec (.jmpRel8 rel8) s = .next (s.jump (s.nextIp (.jmpRel8 rel8) + sext16 rel8))) ∧
    (s.inLimit .cs (s.nextIp (.jmpRel16 rel16) + rel16) 1 = true →
      exec (.jmpRel16 rel16) s = .next (s.jump (s.nextIp (.jmpRel16 rel16) + rel16))) ∧
    (s.inLimit .cs off 1 = true → exec (.jmpFar seg off) s = .next ((s.loadSeg .cs seg).jump off))) ∧
  ∀ (i : Instr) (rel : Byte) (cond : State → Bool) (s : State), jccForm i = some (rel, cond) →
    s.flag .tf = false →
    (cond s = true → s.inLimit .cs (s.nextIp i + sext16 rel) 1 = true →
      exec i s = .next (s.jump (s.nextIp i + sext16 rel))) ∧
    (cond s = false → s.pastLimit i = false → exec i s = .next (s.atEnd i))

/-- LOOP, E2h and rel8, counts CX down with no flag changed and is taken while CX is then not 0 (R305, R312). That a
taken LOOP whose `next_ip` passes FFFFh takes it into the sum of R305 and does not fault is read from R41 and R108
(log 17). -/
def Obligations.LoopResult : Prop :=
  ∀ (rel : Byte) (s : State), decodeBytes [0xE2, rel] = .instr (.loop rel) [] ∧ (s.flag .tf = false →
    (s.r16 .cx = 1 → s.pastLimit (.loop rel) = false →
      exec (.loop rel) s = .next ((s.setR16 .cx 0).atEnd (.loop rel))) ∧
    (s.r16 .cx ≠ 1 → s.inLimit .cs (s.nextIp (.loop rel) + sext16 rel) 1 = true →
      exec (.loop rel) s = .next
        ((s.setR16 .cx (s.r16 .cx - 1)).jump (s.nextIp (.loop rel) + sext16 rel))))

/-- CALL stores `next_ip` below SP and jumps; RET takes its target from the stack (R310, R311). -/
def Obligations.CallRetResult : Prop :=
  ∀ (s : State) (rel t : Word), s.flag .tf = false →
    (s.pastLimit (.callRel16 rel) = false → s.slotFree 1 = true →
      s.inLimit .cs (s.nextIp (.callRel16 rel) + rel) 1 = true →
      exec (.callRel16 rel) s = .next
        (((s.pokeWord (s.linear .ss (s.r16 .sp - 2)) (s.nextIp (.callRel16 rel))).setR16 .sp
          (s.r16 .sp - 2)).jump (s.nextIp (.callRel16 rel) + rel))) ∧
    (s.holdsAt (.mem .ss (s.r16 .sp)) = some t → s.inLimit .cs t 1 = true →
      exec .ret s = .next ((s.setR16 .sp (s.r16 .sp + 2)).jump t))

/-- INT n and INT3 enter the handler of their vector with `next_ip` as the saved IP (R313, R314, R368). -/
def Obligations.SoftwareInterruptEnters : Prop :=
  ∀ (s : State) (n : Byte),
    (s.pastLimit (.intImm8 n) = false → s.canEnter n = true →
      exec (.intImm8 n) s = .next (s.entered n (s.nextIp (.intImm8 n)))) ∧
    (s.pastLimit .int3 = false → s.canEnter 3 = true → exec .int3 s = .next (s.entered 3 (s.nextIp .int3)))

/-- IRET takes IP, CS and FLAGS from the stack, moves SP by 6 and unblocks NMI; with TF set in the image
the model refuses (R315, R364, R369). -/
def Obligations.IretResult : Prop :=
  ∀ (s : State) (ip cs fl : Word), s.holdsAt (.mem .ss (s.r16 .sp)) = some ip →
    s.holdsAt (.mem .ss (s.r16 .sp + 2)) = some cs → s.holdsAt (.mem .ss (s.r16 .sp + 4)) = some fl →
    s.inLimit .cs ip 1 = true →
    (fl.getLsbD 8 = false → ∃ t, exec .iret s = .next t ∧
      t = { ((s.setR16 .sp (s.r16 .sp + 6)).loadSeg .cs cs).jump ip with
        eflags := s.eflags.load16 fl
        latch := { s.latch with nmiBlocked := false, shadow := .none } }) ∧
    (fl.getLsbD 8 = true → exec .iret s = .refused .debugTrap)

/-- FLAGS after a load of the image `fl` reads back `(fl and 7FD5h) or 0002h`, and EFLAGS[31:16] is as it
was (R42, R315). -/
def Obligations.FlagsImageIsMasked : Prop :=
  ∀ (e : Eflags) (fl : Word),
    (e.load16 fl).bits16 = (fl &&& 0x7FD5) ||| 0x0002 ∧
    (e.load16 fl).bits.extractLsb' 16 16 = e.bits.extractLsb' 16 16 ∧
    e.bits.extractLsb' 0 16 = e.bits16 ∧ e.load16 e.bits16 = e

/-! ### Flag, port and other instructions -/

/-- CLC, STC, CMC, CLI, CLD, STD, one byte each, write one flag, after CLI no INTR is recognisable; NOP
changes nothing but the pc (R316 to R319, R321, R322, R330). -/
def Obligations.FlagInstructionResult : Prop :=
  decodeBytes [0xF8] = .instr .clc [] ∧ decodeBytes [0xF9] = .instr .stc [] ∧
  decodeBytes [0xF5] = .instr .cmc [] ∧ decodeBytes [0xFA] = .instr .cli [] ∧
  decodeBytes [0xFC] = .instr .cld [] ∧ decodeBytes [0xFD] = .instr .std [] ∧
  decodeBytes [0x90] = .instr .nop [] ∧
  ∀ s : State, ((s.setFlag .intf false).atEnd .cli).intrReady = false ∧
    (s.mayFinish .clc = true → exec .clc s = .next ((s.setFlag .cf false).atEnd .clc)) ∧
    (s.mayFinish .stc = true → exec .stc s = .next ((s.setFlag .cf true).atEnd .stc)) ∧
    (s.mayFinish .cmc = true → exec .cmc s = .next ((s.setFlag .cf (!s.flag .cf)).atEnd .cmc)) ∧
    (s.mayFinish .cli = true → exec .cli s = .next ((s.setFlag .intf false).atEnd .cli)) ∧
    (s.mayFinish .cld = true → exec .cld s = .next ((s.setFlag .df false).atEnd .cld)) ∧
    (s.mayFinish .std = true → exec .std s = .next ((s.setFlag .df true).atEnd .std)) ∧
    (s.mayFinish .nop = true → exec .nop s = .next (s.atEnd .nop))

/-- STI sets IF; the shadow that holds INTR off for one instruction comes only where IF was 0, and then
INTR is not recognisable at the next boundary (R320, R381). That the shadow keeps its cause, here STI, is the
model's choice (log 13). -/
def Obligations.StiDelaysInterrupts : Prop :=
  ∀ s : State, s.mayFinish .sti = true →
    (s.flag .intf = false → ∃ t, exec .sti s = .next t ∧
      t = ((s.setFlag .intf true).atEnd .sti).setShadow .sti ∧ t.intrReady = false) ∧
    (s.flag .intf = true → exec .sti s = .next (s.atEnd .sti))

/-- IN puts the platform's answer into AL or AX, OUT hands AL or AX to the platform; each is one access to the
ports that answer, the low byte at the port named and the high one at the next, modulo 2^16 (R76, R326, R327). How
the answers and the record of accesses are kept is the model's choice (logs 8, 9). -/
def Obligations.PortResult : Prop :=
  ∀ (s : State) (i : Instr) (p : Byte), s.mayFinish i = true → s.portsAnswer i = true →
    (i = .inAlImm8 p → exec i s = .next
      (((s.answer.2.see (.ioRead [(p.setWidth 16, loByte s.answer.1)])).setR8 .al (loByte s.answer.1)).atEnd i)) ∧
    (i = .inAlDx → exec i s = .next
      (((s.answer.2.see (.ioRead [(s.r16 .dx, loByte s.answer.1)])).setR8 .al (loByte s.answer.1)).atEnd i)) ∧
    (i = .inAxDx → exec i s = .next
      (((s.answer.2.see (.ioRead [(s.r16 .dx, loByte s.answer.1), (s.r16 .dx + 1, hiByte s.answer.1)])).setR16 .ax
        s.answer.1).atEnd i)) ∧
    (i = .outImm8Al p → exec i s = .next ((s.see (.ioWrite [(p.setWidth 16, s.r8 .al)])).atEnd i)) ∧
    (i = .outDxAl → exec i s = .next ((s.see (.ioWrite [(s.r16 .dx, s.r8 .al)])).atEnd i)) ∧
    (i = .outDxAx → exec i s = .next
      ((s.see (.ioWrite [(s.r16 .dx, s.r8 .al), (s.r16 .dx + 1, s.r8 .ah)])).atEnd i))

/-- HLT halts after itself; a core that is halted or in Stop Grant and has no event to take stays as it is, whatever
IF is, which of a halted one with IF = 0 and no NMI, SMI#, INIT or RESET is the end of a run (R331, R387, D20). That
an idle core makes empty steps is the model's choice (log 15). -/
def Obligations.HaltStops : Prop :=
  (∀ s : State, s.mayFinish .hlt = true → exec .hlt s = .next ({ s with run := .halted }.atEnd .hlt)) ∧
  (∀ s : State, (s.run = .halted ∨ ∃ h, s.run = .stopGrant h) → s.events = [] → s.pinsTaken = false →
    s.tap.coreNeedsReset = false → s.realMode = true → s.breakpointArmed = false → coreStep s = .next s) ∧
  (∀ s : State, s.run = .halted → (s.events = [] ↔ s.latch.initPending = false ∧ s.latch.smiPending = false ∧
    (s.latch.nmiPending = false ∨ s.latch.nmiBlocked = true ∨ s.latch.shadow = .movSs) ∧
    (s.pins.inp.intr = false ∨ s.flag .intf = false ∨ s.intShadow = true) ∧
    s.latch.flushPending = false ∧ s.pins.inp.stpclk = false)) ∧
  (∀ s : State, s.run = .halted → s.pins.inp.reset = false → s.pinsTaken = false →
    s.tap.coreNeedsReset = false → s.realMode = true → s.breakpointArmed = false → s.flag .intf = false →
    s.latch.initPending = false → s.latch.smiPending = false → s.latch.nmiPending = false →
    s.latch.flushPending = false → s.pins.inp.stpclk = false → coreStep s = .next s)

/-- RDTSC, 0Fh 31h, gives a value no less than the last one read, in all 64 bits of EDX:EAX, and no step of any
agent but RESET lets the counter fall (R48, R335). That the counter is held as the value last read is the model's
choice (log 20), the value itself a free one (log 1). -/
def Obligations.TimeStampNeverFalls : Prop :=
  decodeBytes [0x0F, 0x31] = .instr .rdtsc [] ∧
  (∀ s t : State, step s = .next t → (∀ rest, s.schedule ≠ .drive .reset true :: rest) →
    s.tsc.toNat ≤ t.tsc.toNat) ∧
  ∀ s : State, s.mayFinish .rdtsc = true → ∃ v : BitVec 64, s.tsc.toNat ≤ v.toNat ∧
    exec .rdtsc s = .next
      ({ (((s.setR32 .ax (v.setWidth 32)).setR32 .dx ((v >>> 32).setWidth 32)).drew 1) with tsc := v }.atEnd
        .rdtsc)

/-! ### Exceptions -/

/-- A trap entry that meets no obstacle: FLAGS, CS and the saved IP on the stack in that order, SP below
them, IF, TF and AC clear, CS:pc at the handler the vector table names, the core running with no shadow
and no `dirty_code` (R366, R367). -/
def Obligations.TrapEntryResult : Prop :=
  ∀ (n : Byte) (c : Bool) (rip off seg : Word) (s : State), s.canEnter n = true →
    s.vector n = some (off, seg) → ∃ t, deliver n c rip s = .next t ∧ t = s.entered n rip ∧
      t.eip = zext32 off ∧ (t.seg .cs).sel = seg ∧ (t.seg .cs).base = zext32 seg <<< 4 ∧
      t.r16 .sp = s.r16 .sp - 6 ∧ (∀ r, r ≠ .sp → t.r32 r = s.r32 r) ∧
      (∀ r, r ≠ .cs → t.seg r = s.seg r) ∧
      t.eflags = { s.eflags with intf := false, tf := false, ac := false } ∧
      t.run = .running ∧ t.dirty = [] ∧ t.latch = { s.latch with shadow := .none } ∧
      t.peekWord (t.linear .ss (t.r16 .sp)) = some rip ∧
      t.peekWord (t.linear .ss (t.r16 .sp + 2)) = some (s.seg .cs).sel ∧
      t.peekWord (t.linear .ss (t.r16 .sp + 4)) = some s.flags16 ∧
      (∀ a, a ∉ s.wordAt (s.linear .ss (s.r16 .sp - 2)) → a ∉ s.wordAt (s.linear .ss (s.r16 .sp - 4)) →
        a ∉ s.wordAt (s.linear .ss (s.r16 .sp - 6)) → Memory.get t.mem a = Memory.get s.mem a)

/-- IRET undoes a software interrupt: from the state an INT n leaves, IRET goes to the instruction after
the INT with SP, CS and FLAGS as they were, and EFLAGS but AC as it was (R313, R315, R369). -/
def Obligations.IretUndoesInterrupt : Prop :=
  ∀ (n : Byte) (s t : State), s.canEnter n = true → s.flag .tf = false →
    (s.seg .cs).base = selBase (s.seg .cs).sel → (s.seg .cs).limit = 0xFFFF →
    exec (.intImm8 n) s = .next t → ∃ u, exec .iret t = .next u ∧
      u.ip = s.nextIp (.intImm8 n) ∧ u.sreg = s.sreg ∧ u.gpr = s.gpr ∧
      u.eflags = { s.eflags with ac := false } ∧ u.latch.nmiBlocked = false

/-- A stack pointer of 0001h, 0003h or 0005h makes every trap entry fail, and the one after it too: the
core shuts down, its registers as they were (R370, R372). That the second failure shuts the core down whichever
vector failed is read from R370 (log 19), and the record of the shutdown cycle is the model's own (log 9). -/
def Obligations.OddStackShutsDown : Prop :=
  ∀ (n : Byte) (c : Bool) (rip : Word) (s : State),
    s.r16 .sp = 1 ∨ s.r16 .sp = 3 ∨ s.r16 .sp = 5 → (s.seg .ss).limit = 0xFFFF →
    s.sys.idtr.limit = 0xFFFF →
    deliver n c rip s = .next { s with run := .shutdown, trace := s.trace ++ [.shutdownCycle] }

/-- A core that is shut down stays so, whatever INTR, FLUSH# and STPCLK# do, until INIT or RESET starts it again at
the reset entry point; where NMI or SMI# is latched instead the model refuses (R372). That an idle core makes empty
steps is the model's choice (log 15), so is that a latched NMI counts though it is blocked (log 46). -/
def Obligations.ShutdownEnds : Prop :=
  ∀ s : State, s.run = .shutdown → s.pins.inp.reset = false → s.pinsTaken = false →
    s.tap.coreNeedsReset = false → s.realMode = true → s.breakpointArmed = false →
    (s.latch.initPending = false → s.latch.nmiPending = false → s.latch.smiPending = false →
      coreStep s = .next s) ∧
    (s.latch.initPending = true → s.latch.nmiPending = false → s.latch.smiPending = false →
      ∃ t, coreStep s = .next t ∧ t.run = .running ∧ t.eip = 0x0000FFF0 ∧ (t.seg .cs).base = 0xFFFF0000) ∧
    (s.latch.initPending = false → s.latch.nmiPending = true ∨ s.latch.smiPending = true →
      coreStep s = .refused .shutdownEvent) ∧
    (∃ t, perform (.drive .reset true) s = .next t ∧ t.run = .running ∧ t.eip = 0x0000FFF0 ∧
      (t.seg .cs).base = 0xFFFF0000)

/-- An access that nothing answers, or a store that nothing takes and the platform does not drop, leaves the core
stuck: an operand read, a store alone or after its operand was read, a port access, the stack slots of PUSH, POP,
CALL, RET and IRET, the vector table and the three stores of a trap entry, and every byte a fetch needs. The access
has no step, no register and no flag is written, and the core stays so while the other agents go on, until RESET
(R74 to R76, R108, R264, R366, R385). That an access of two bytes has no step where one of them is not answered, and
that the words a trap entry stored before stay, is the model's choice (log 41); so is the empty step of a stuck core
(log 15), and the free values a read-modify-write has taken by then are no state of the part (log 1). -/
def Obligations.UnansweredAccessSticksCore : Prop :=
  (∀ (i : Instr) (rm : Rm) (s : State) (sg : Sreg) (off : Word), rmOperand i = some rm →
    s.place rm = .mem sg off → s.inLimit sg off 2 = true → s.pastLimit i = false →
    (s.place rm ∈ s.readBy i → (s.answered (s.linear sg off) && s.answered (s.linear sg off + 1)) = false →
      exec i s = .next { s with run := .stuck }) ∧
    (s.readBy i = [] → (s.accepted (s.linear sg off) && s.accepted (s.linear sg off + 1)) = false →
      exec i s = .next { s with run := .stuck })) ∧
  (∀ (i : Instr) (s : State), s.pastLimit i = false → s.portsAnswer i = false →
    exec i s = .next { s with run := .stuck }) ∧
  (∀ (i : Instr) (s : State) (sg : Sreg) (off : Word), s.target i = some (.mem sg off) → s.inLimit sg off 2 = true →
    (s.readBy i).all (fun p => (s.holdsAt p).isSome) = true → s.defined i = true → s.pastLimit i = false →
    (s.accepted (s.linear sg off) && s.accepted (s.linear sg off + 1)) = false →
    ∃ n, exec i s = .next { s with draws := s.draws + n, run := .stuck }) ∧
  (∀ (s : State) (r : Reg), s.inLimit .ss (s.r16 .sp) 2 = true →
    (s.answered (s.linear .ss (s.r16 .sp)) && s.answered (s.linear .ss (s.r16 .sp) + 1)) = false →
    (s.pastLimit (.popR r) = false → exec (.popR r) s = .next { s with run := .stuck }) ∧
    exec .ret s = .next { s with run := .stuck }) ∧
  (∀ (s : State) (k : Nat), k < 3 → s.inLimit .ss (s.slotAbove 0) 2 = true → s.inLimit .ss (s.slotAbove 1) 2 = true →
    s.inLimit .ss (s.slotAbove 2) 2 = true → (∀ j, j < k → (s.holdsAt (.mem .ss (s.slotAbove j))).isSome = true) →
    (s.answered (s.linear .ss (s.slotAbove k)) && s.answered (s.linear .ss (s.slotAbove k) + 1)) = false →
    exec .iret s = .next { s with run := .stuck }) ∧
  (∀ (s : State) (rel : Word), s.pastLimit (.callRel16 rel) = false →
    s.inLimit .cs (s.nextIp (.callRel16 rel) + rel) 1 = true → s.inLimit .ss (s.r16 .sp - 2) 2 = true →
    (s.accepted (s.linear .ss (s.r16 .sp - 2)) && s.accepted (s.linear .ss (s.r16 .sp - 2) + 1)) = false →
    exec (.callRel16 rel) s = .next { s with run := .stuck }) ∧
  (∀ (n : Byte) (c : Bool) (rip : Word) (s : State), 4 * n.toNat + 3 ≤ s.sys.idtr.limit.toNat →
    s.inLimit .ss (s.slotBelow 1) 2 = true → s.inLimit .ss (s.slotBelow 2) 2 = true →
    s.inLimit .ss (s.slotBelow 3) 2 = true →
    ((s.answered (s.vectorAt n) && s.answered (s.vectorAt n + 1)) = false →
      deliver n c rip s = .next { s with run := .stuck }) ∧
    ((s.peekWord (s.vectorAt n)).isSome = true →
      (s.answered (s.vectorAt n + 2) && s.answered (s.vectorAt n + 2 + 1)) = false →
      deliver n c rip s = .next { s with run := .stuck }) ∧
    ((s.vector n).isSome = true →
      (s.takesSlot 1 = false → deliver n c rip s = .next { s with run := .stuck }) ∧
      (s.slotFree 1 = true → s.takesSlot 2 = false → deliver n c rip s =
        .next { s.pokeWord (s.linear .ss (s.slotBelow 1)) s.flags16 with run := .stuck }) ∧
      (s.slotFree 1 = true → s.slotFree 2 = true → s.takesSlot 3 = false → deliver n c rip s =
        .next { (s.pokeWord (s.linear .ss (s.slotBelow 1)) s.flags16).pokeWord
          (s.linear .ss (s.slotBelow 2)) (s.seg .cs).sel with run := .stuck }))) ∧
  (∀ (s : State) (got : List Byte), s.ready = true → decodeBytes got = .more →
    (∀ (k : Nat) (h : k < got.length), s.fetches k got[k]) → s.ip.toNat + got.length ≤ 0xFFFF →
    s.phys (s.linear .cs (s.ip + BitVec.ofNat 16 got.length)) ∉ s.dirty →
    s.answered (s.linear .cs (s.ip + BitVec.ofNat 16 got.length)) = false →
    step s = settle (.next { s with run := .stuck })) ∧
  ∀ s : State, s.run = .stuck →
    (s.pinsTaken = false → s.tap.coreNeedsReset = false → s.realMode = true → s.breakpointArmed = false →
      coreStep s = .next s) ∧
    (s.pins.inp.reset = false → ∃ t, perform (.drive .reset true) s = .next t ∧ t.run = .running)

/-! ### Memory and registers -/

/-- A 16-bit store to RAM: the word reads back at any address, its low byte at the lower one, every other
byte of memory is as before, and the canonical form holds. A byte read from a volatile region is the platform's next
answer; a byte stored there, or to a region whose platform drops it, changes no memory, is seen by the platform and
joins `dirty_code`; MOV between a register and memory is such an access in every addressing form (R74, R75, R77, R82,
R86, R90, R272, R273). How answers and accesses are kept is the model's choice (logs 8, 9), so is what a dropped byte
leaves (logs 38, 41). -/
def Obligations.StoreThenLoad : Prop :=
  (∀ (s : State) (lin : Dword) (v : Word) (t : State), s.wordRead lin = some (v, t) → readWord lin s = .ok (v, t) ∧
    t.mem = s.mem ∧ t.dirty = s.dirty ∧ t.gpr = s.gpr ∧ t.latch = s.latch ∧ t.board = s.board) ∧
  (∀ (s : State) (lin : Dword) (v : Word), (s.accepted lin && s.accepted (lin + 1)) = true →
    writeWord lin v s = .ok ((), s.wordStored lin v) ∧
    (∀ a, a ∈ (s.wordStored lin v).dirty ↔ a ∈ s.dirty ∨ a ∈ s.wordAt lin) ∧
    (∀ a, (s.board.kindAt a = .ram → a ∉ s.wordAt lin) →
      Memory.get (s.wordStored lin v).mem a = Memory.get s.mem a)) ∧
  (∀ (s : State) (rm : Rm) (r : Reg) (sg : Sreg) (off : Word), s.place rm = .mem sg off →
    s.inLimit sg off 2 = true →
    (∀ (v : Word) (t : State), s.mayFinish (.movRRm r rm) = true → s.wordRead (s.linear sg off) = some (v, t) →
      exec (.movRRm r rm) s = .next ((t.setR16 r v).atEnd (.movRRm r rm))) ∧
    (s.mayFinish (.movRmR rm r) = true →
      (s.accepted (s.linear sg off) && s.accepted (s.linear sg off + 1)) = true →
      exec (.movRmR rm r) s = .next ((s.wordStored (s.linear sg off) (s.r16 r)).atEnd (.movRmR rm r)))) ∧
  ∀ (s : State) (lin : Dword) (v : Word), s.storable lin = true → ∃ t, writeWord lin v s = .ok ((), t) ∧
    t.peekWord lin = some v ∧ t.peekByte lin = some (v.setWidth 8) ∧
    t.peekByte (lin + 1) = some ((v >>> 8).setWidth 8) ∧
    (∀ a, a ∉ s.wordAt lin → Memory.get t.mem a = Memory.get s.mem a) ∧
    (Memory.wf s.mem = true → Memory.wf t.mem = true)

/-- The physical address is the linear one, with bit 20 and no other bit cleared while `a20_mask` is set, and
`a20_mask` follows A20M# (R74, R78, R388). When in a run the pin changes is the schedule's (log 28). -/
def Obligations.A20MaskFoldsAddresses : Prop :=
  (∀ (s : State) (lin : Dword),
    (s.latch.a20Mask = true → s.phys lin = (lin &&& 0xFFEFFFFF).toNat) ∧
    (s.latch.a20Mask = false → s.phys lin = lin.toNat)) ∧
  ∀ (s : State) (b : Bool), ∃ t, perform (.drive .a20m b) s = .next t ∧ t.latch = { s.latch with a20Mask := b } ∧
    t.pins.inp = { s.pins.inp with a20m := b }

/-- A write to a 16-bit or 8-bit register leaves the other bits of its 32-bit register and every other
register as they were, and reads back (R40). -/
def Obligations.PartialRegisterWrites : Prop :=
  (∀ (s : State) (r q : Reg) (v : Word), (s.setR16 r v).r16 r = v ∧
    ((s.setR16 r v).r32 q).extractLsb' 16 16 = (s.r32 q).extractLsb' 16 16 ∧
    (q ≠ r → (s.setR16 r v).r32 q = s.r32 q)) ∧
  (∀ (s : State) (r q : Reg8) (v : Byte), (s.setR8 r v).r8 r = v ∧
    (q ≠ r → (s.setR8 r v).r8 q = s.r8 q) ∧
    (∀ g, g ≠ (homeOf r).1 → (s.setR8 r v).r32 g = s.r32 g) ∧
    ∀ g, ((s.setR8 r v).r32 g).extractLsb' 16 16 = (s.r32 g).extractLsb' 16 16)

/-! ### TAP -/

/-- The state graph of R210, row by row, and every rising edge of TCK follows it with the sampled TMS. -/
def Obligations.TapTransitionTable : Prop :=
  (∀ (s : State) (tms tdi : Bool) (changing : List PinBit),
    (s.tapRise tms tdi changing).tap.ctl = s.tap.ctl.after tms) ∧
  ∀ row ∈ ([(.testLogicReset, .runTestIdle, .testLogicReset), (.runTestIdle, .runTestIdle, .selectDr),
      (.selectDr, .captureDr, .selectIr), (.captureDr, .shiftDr, .exit1Dr), (.shiftDr, .shiftDr, .exit1Dr),
      (.exit1Dr, .pauseDr, .updateDr), (.pauseDr, .pauseDr, .exit2Dr), (.exit2Dr, .shiftDr, .updateDr),
      (.updateDr, .runTestIdle, .selectDr), (.selectIr, .captureIr, .testLogicReset),
      (.captureIr, .shiftIr, .exit1Ir), (.shiftIr, .shiftIr, .exit1Ir), (.exit1Ir, .pauseIr, .updateIr),
      (.pauseIr, .pauseIr, .exit2Ir), (.exit2Ir, .shiftIr, .updateIr), (.updateIr, .runTestIdle, .selectDr)] :
      List (TapCtl × TapCtl × TapCtl)),
    row.1.after false = row.2.1 ∧ row.1.after true = row.2.2

/-- An IR scan: Capture-IR loads IR_CAPTURE, whether it is left for Shift-IR or for Exit1-IR; in Shift-IR the
register moves toward TDO bit by bit, each TDI bit entering at the top, on every rising edge and on the one that
leaves for Exit1-IR too, while the instruction in force stays; passing through Update-IR puts the bits of the shift
stage into force, whatever code they are. So a scan of IR_LEN bits from Capture-IR to Update-IR puts just those bits
into force (R100, R102, R212, R213, R215, R216). -/
def Obligations.IrScan : Prop :=
  ∀ s : State, s.tapHeld = false → s.board.ir.wf = true →
    (s.tap.ctl = .captureIr → ∀ x : Bool, ∃ t, tapRun true [x] s = .next t ∧ t.tap.ctl = .exit1Ir ∧
      t.tap.irShift = s.board.ir.capture ∧ t.tap.irOut = s.tap.irOut ∧ t.tap.tdo = .z) ∧
    (s.tap.ctl = .shiftIr → ∀ b : Bool, ∃ t, tapRun true [b] s = .next t ∧ t.tap.ctl = .exit1Ir ∧
      t.tap.irShift = (s.tap.irShift ++ [b]).drop 1 ∧ t.tap.irOut = s.tap.irOut ∧ t.tap.tdo = .z) ∧
    (s.tap.ctl = .captureIr → ∀ (x b y : Bool) (vs : List Bool), (vs ++ [b]).length = s.board.ir.len →
      ∃ t u, tapRun false (x :: vs) s = .next t ∧ tapRun true [b, y] t = .next u ∧
        u.tap.ctl = .updateIr ∧ u.tap.irOut = vs ++ [b]) ∧
    (s.tap.ctl = .captureIr → ∀ x : Bool, ∃ t, tapRun false [x] s = .next t ∧ t.tap.ctl = .shiftIr ∧
      t.tap.irShift = s.board.ir.capture ∧ t.tap.irOut = s.tap.irOut ∧ t.tap.tdo = .high) ∧
    (s.tap.ctl = .shiftIr → ∀ vs : List Bool, ∃ t, tapRun false vs s = .next t ∧ t.tap.ctl = .shiftIr ∧
      t.tap.irShift = (s.tap.irShift ++ vs).drop vs.length ∧ t.tap.irOut = s.tap.irOut ∧
      (vs ≠ [] → t.tap.tdo = firstBit t.tap.irShift)) ∧
    (s.tap.ctl = .exit1Ir ∨ s.tap.ctl = .exit2Ir → ∀ x : Bool, ∃ t, tapRun true [x] s = .next t ∧
      t.tap.ctl = .updateIr ∧ t.tap.irOut = s.tap.irShift ∧ t.tap.irShift = s.tap.irShift ∧ t.tap.tdo = .z)

/-- Each of the five TAP instructions comes into force with its own code and its own register selected, and
touches nothing else of the machine; EXTEST and HIGHZ leave the core in need of a RESET (R30, R240 to R245; log
21). That a code which is none of the five selects the bypass register is D18 (log 30). That EXTEST comes into
force also where BSR.out was never loaded, and marks that run instead of ending it, is the model's choice (log 4). -/
def Obligations.TapInstructionsComeIntoForce : Prop :=
  ∀ s : State, s.board.ir.wf = true →
    exec .extest s = .next
      { s with tap := { s.tap with irOut := s.board.ir.extest, coreNeedsReset := true } } ∧
    (∀ t, exec .extest s = .next t → t.drivesUnloaded = !s.tap.bsrLoaded) ∧
    exec .samplePreload s = .next { s with tap := { s.tap with irOut := s.board.ir.sample } } ∧
    exec .idcode s = .next { s with tap := { s.tap with irOut := s.board.ir.idcode } } ∧
    exec .highz s = .next
      { s with tap := { s.tap with irOut := s.board.ir.highz, coreNeedsReset := true } } ∧
    exec .bypass s = .next { s with tap := { s.tap with irOut := s.board.ir.bypass } } ∧
    selOf s.board.ir s.board.ir.extest = .bsr ∧ selOf s.board.ir s.board.ir.sample = .bsr ∧
    selOf s.board.ir s.board.ir.idcode = .dir ∧ selOf s.board.ir s.board.ir.highz = .br ∧
    selOf s.board.ir s.board.ir.bypass = .br ∧
    ∀ c : List Bool, decodeIr s.board.ir c = none → selOf s.board.ir c = .br

/-- While HIGHZ is in force the part drives no output or bidirectional pin. While EXTEST is, every such pin with
a data cell has the level BSR.out holds there, of whatever width its bus is, unless a control cell governs it
and floats it (R241, R244). How control cells are described, and that the first of several data cells of a pin
drives it, is the model's choice (log 31). -/
def Obligations.PinsUnderTest : Prop :=
  (∀ (s : State) (p : PinBit), s.board.ir.wf = true → s.tap.irOut = s.board.ir.highz → (∀ i, p ≠ .inp i) →
    s.partLevel p = .z ∧ s.pinLevel p = s.pins.platformLevel p) ∧
  (∀ (s : State) (p : OutPin), s.board.ir.wf = true → s.tap.irOut = s.board.ir.highz → s.pinLevel (.out p) = .z) ∧
  ∀ (s : State) (p : PinBit), s.tap.irOut = s.board.ir.extest → (∀ i, p ≠ .inp i) →
    s.tap.bsrOut.length = s.board.bsrMap.length →
    (∀ (j : Nat) (gov : List PinBit) (on v : Bool), s.board.bsrMap[j]? = some (.control gov on) → p ∈ gov →
      s.tap.bsrOut[j]? = some v → v ≠ on → s.partLevel p = .z) ∧
    (∀ (k : Nat) (v : Bool), s.board.bsrMap[k]? = some (.data p) → s.tap.bsrOut[k]? = some v →
      (∀ j, j < k → s.board.bsrMap[j]? ≠ some (.data p)) →
      (∀ (j : Nat) (gov : List PinBit) (on : Bool), s.board.bsrMap[j]? = some (.control gov on) → p ∈ gov →
        s.tap.bsrOut[j]? = some on) →
      s.partLevel p = if v then .high else .low)

/-- While EXTEST or HIGHZ is in force, and after it until RESET, the core is not stepped: what asks for that RESET
stays set through every step of every agent but the assertion of RESET, which clears it (R240, R241, R244, D19). The
bit that remembers it is log 21. -/
def Obligations.CoreRefusedWithoutPins : Prop :=
  (∀ s t : State, step s = .next t → s.tap.coreNeedsReset = true →
    (∀ rest, s.schedule ≠ .drive .reset true :: rest) → t.tap.coreNeedsReset = true) ∧
  (∀ s t : State, s.pins.inp.reset = false → perform (.drive .reset true) s = .next t →
    t.tap.coreNeedsReset = false ∧ t.tap.irOut = s.board.ir.idcode) ∧
  ∀ s : State, s.pins.inp.reset = false →
    (s.tap.irOut = s.board.ir.extest ∨ s.tap.irOut = s.board.ir.highz → coreStep s = .refused .pinsOverridden) ∧
    (s.tap.irOut ≠ s.board.ir.extest → s.tap.irOut ≠ s.board.ir.highz → s.tap.coreNeedsReset = true →
      coreStep s = .refused .resetRequired)

/-- From any state five TCK periods with TMS high end in Test-Logic-Reset with IDCODE in force and TDO floated, and
a TMS that nothing drives counts as high. Asserting TRST# does the same at once, with no TCK edge, and changes nothing
else; while TRST# or RESET stays asserted every TCK period ends there, whatever TMS and TDI are (R143, R211, R224).
That such a period leaves the shift stages and BSR.out as they were is read from R211 (log 25). -/
def Obligations.FiveOnesResetTap : Prop :=
  (∀ s : State, perform (.drive .trst true) s = .next { s with
    tap := { s.tap with ctl := .testLogicReset, irOut := s.board.ir.idcode, tdo := .z }
    pins := { s.pins with inp := { s.pins.inp with trst := true } } }) ∧
  (∀ (s : State) (tms tdi : Sample) (changing : List PinBit),
    s.pins.inp.trst = true ∨ s.pins.inp.reset = true → ∃ t, perform (.tck tms tdi changing) s = .next t ∧
      t.tap = { s.tap with ctl := .testLogicReset, irOut := s.board.ir.idcode, tdo := .z }) ∧
  (∀ (s : State) (tdis : List Bool), tdis.length = 5 → ∃ t, tapRun true tdis s = .next t ∧
    t.tap.ctl = .testLogicReset ∧ t.tap.irOut = s.board.ir.idcode ∧ t.tap.tdo = .z) ∧
  ∀ (s : State) (tdi : Sample) (changing : List PinBit),
    perform (.tck .undriven tdi changing) s = perform (.tck (.level true) tdi changing) s

/-- Capture-DR with the boundary-scan register selected, whichever way it is left: the cell of a pin takes the pin's
level; a control cell, a floated pin, a pin that is changing at the edge and, under EXTEST, an output-only pin give a
free value. Update-DR copies the shift stage into BSR.out where that register is selected, and only there (R217, R219,
R225, R241, R242). What free value a cell takes is the model's choice (log 1). -/
def Obligations.BoundaryScanCapture : Prop :=
  (∀ (s : State) (tms x : Bool) (changing : List PinBit), s.tapHeld = false → s.tap.ctl = .captureDr →
    s.sel = .bsr → ∃ t, tapCycle tms x changing s = .next t ∧
      t.tap.ctl = (if tms then .exit1Dr else .shiftDr) ∧ t.tap.bsrOut = s.tap.bsrOut ∧
      t.tap.bsrShift.length = s.board.bsrMap.length ∧
      (∀ (k : Nat) (p : PinBit) (b : Bool), s.board.bsrMap[k]? = some (.data p) → p ∉ changing →
        (s.tap.irOut = s.board.ir.extest → p.isInput = true) →
        s.pinLevel p = (if b then .high else .low) → t.tap.bsrShift[k]? = some b) ∧
      (∀ (k : Nat) (c : BsrCell), s.board.bsrMap[k]? = some c →
        (∃ gov on, c = .control gov on) ∨ (∃ p, c = .data p ∧ (p ∈ changing ∨ s.pinLevel p = .z ∨
          (s.tap.irOut = s.board.ir.extest ∧ p.isInput = false))) →
        t.tap.bsrShift[k]? = some (drawBitAt (s.draws + k)))) ∧
  ∀ (s : State) (x : Bool) (changing : List PinBit), s.tapHeld = false →
    s.tap.ctl = .exit1Dr ∨ s.tap.ctl = .exit2Dr → ∃ t, tapCycle true x changing s = .next t ∧
      t.tap.ctl = .updateDr ∧ t.tap.bsrShift = s.tap.bsrShift ∧
      t.tap.bsrOut = if s.sel = .bsr then s.tap.bsrShift else s.tap.bsrOut

/-- The boundary-scan chain does not invert: after as many TCK periods in Shift-DR as it is long, it holds
the bits that came in at TDI, and the first of them stands at TDO. The rising edge that leaves Shift-DR shifts too, so
a scan of BSR_LEN bits from Capture-DR to Update-DR brings just those bits into BSR.out (R27, R216 to R219, R223). -/
def Obligations.BoundaryScanDoesNotInvert : Prop :=
  (∀ (s : State) (b : Bool), s.tapHeld = false → s.tap.ctl = .shiftDr → s.sel = .bsr →
    ∃ t, tapRun true [b] s = .next t ∧ t.tap.ctl = .exit1Dr ∧
      t.tap.bsrShift = (s.tap.bsrShift ++ [b]).drop 1 ∧ t.tap.bsrOut = s.tap.bsrOut ∧ t.tap.tdo = .z) ∧
  (∀ (s : State) (x b y : Bool) (vs : List Bool), s.tapHeld = false → s.tap.ctl = .captureDr → s.sel = .bsr →
    (vs ++ [b]).length = s.board.bsrMap.length →
    ∃ t u, tapRun false (x :: vs) s = .next t ∧ t.tap.bsrOut = s.tap.bsrOut ∧ tapRun true [b, y] t = .next u ∧
      u.tap.ctl = .updateDr ∧ u.tap.bsrOut = vs ++ [b]) ∧
  ∀ (s : State) (b : Bool) (vs : List Bool), s.tapHeld = false → s.tap.ctl = .shiftDr →
    s.sel = .bsr → (b :: vs).length = s.tap.bsrShift.length →
    ∃ t, tapRun false (b :: vs) s = .next t ∧ t.tap.bsrShift = b :: vs ∧ t.tap.ctl = .shiftDr ∧
      t.tap.tdo = (if b then .high else .low) ∧ t.tap.bsrOut = s.tap.bsrOut

/-- A DR scan under IDCODE brings DIR_VALUE to TDO bit 0 first. One with the bypass register selected, which BYPASS,
HIGHZ and every code that is none of the five select, brings 0 and then the bits of TDI one period late; both
registers are loaded in Capture-DR and shifted in Shift-DR on every rising edge, those that leave these states with
TMS high too (R216 to R218, R223, R224, R243 to R246). DIR_VALUE is a parameter (log 6), and that a code which is none
of the five acts as BYPASS is D18 (log 30). -/
def Obligations.ScanReadsIdOrDelay : Prop :=
  (∀ (s : State) (x : Bool) (vs : List Bool), s.tapHeld = false → s.board.ir.wf = true → s.tap.ctl = .captureDr →
    s.tap.irOut = s.board.ir.idcode → vs.length < 32 →
    ∃ t, tapRun false (x :: vs) s = .next t ∧ t.tap.ctl = .shiftDr ∧
      t.tap.tdo = if s.board.dirValue.getLsbD vs.length then .high else .low) ∧
  (∀ s : State, s.board.ir.wf = true → s.tap.irOut = s.board.ir.bypass ∨ s.tap.irOut = s.board.ir.highz ∨
    decodeIr s.board.ir s.tap.irOut = none → s.sel = .br) ∧
  (∀ (s : State) (x b : Bool) (vs : List Bool), s.tapHeld = false → s.tap.ctl = .captureDr → s.sel = .br →
    (∃ t, tapRun false [x] s = .next t ∧ t.tap.tdo = .low) ∧
    ∃ t, tapRun false (x :: (vs ++ [b])) s = .next t ∧ t.tap.ctl = .shiftDr ∧
      t.tap.tdo = if b then .high else .low) ∧
  ∀ (s : State) (tms x : Bool), s.tapHeld = false → s.board.ir.wf = true →
    (s.tap.irOut = s.board.ir.idcode →
      (s.tap.ctl = .captureDr → ∃ t, tapRun tms [x] s = .next t ∧ t.tap.dir = s.board.dirValue) ∧
      (s.tap.ctl = .shiftDr → ∃ t, tapRun tms [x] s = .next t ∧
        ∀ k, k < 32 → t.tap.dir.getLsbD k = if k = 31 then x else s.tap.dir.getLsbD (k + 1))) ∧
    (s.sel = .br →
      (s.tap.ctl = .captureDr → ∃ t, tapRun tms [x] s = .next t ∧ t.tap.br = false) ∧
      (s.tap.ctl = .shiftDr → ∃ t, tapRun tms [x] s = .next t ∧ t.tap.br = x))

/-- The instruction in force changes only at the falling edge of a TCK period that ends in Update-IR or
Test-Logic-Reset or by a reset of the TAP, and BSR.out only at one that ends in Update-DR with the
boundary-scan register selected (R224). -/
def Obligations.TapOutputsChangeOnlyInUpdate : Prop :=
  ∀ s t : State, step s = .next t →
    (t.tap.irOut ≠ s.tap.irOut →
      (∃ a b c rest, s.schedule = .tck a b c :: rest ∧ (t.tap.ctl = .updateIr ∨ t.tap.ctl = .testLogicReset)) ∨
      (∃ p rest, s.schedule = .drive p true :: rest ∧ (p = .reset ∨ p = .trst))) ∧
    (t.tap.bsrOut ≠ s.tap.bsrOut →
      ∃ a b c rest, s.schedule = .tck a b c :: rest ∧ t.tap.ctl = .updateDr ∧ s.sel = .bsr)

/-- A TCK period writes no register and no memory of the core, and reads none: with the same TAP, pins and
parameters, what it does is the same whatever the core holds (R32, R240). -/
def Obligations.TapLeavesCoreAlone : Prop :=
  (∀ (s t : State) (tms tdi : Sample) (changing : List PinBit), perform (.tck tms tdi changing) s = .next t →
    t.gpr = s.gpr ∧ t.eip = s.eip ∧ t.eflags = s.eflags ∧ t.sreg = s.sreg ∧ t.sys = s.sys ∧
    t.fpu = s.fpu ∧ t.msr = s.msr ∧ t.tsc = s.tsc ∧ t.smm = s.smm ∧ t.run = s.run ∧ t.latch = s.latch ∧
    t.dirty = s.dirty ∧ t.mem = s.mem ∧ t.trace = s.trace ∧ t.pins.out = s.pins.out) ∧
  ∀ (s t u : State) (tms tdi : Sample) (changing : List PinBit), perform (.tck tms tdi changing) s = .next t →
    u.tap = s.tap → u.pins = s.pins → u.board = s.board → u.draws = s.draws →
    ∃ v, perform (.tck tms tdi changing) u = .next v ∧ v.tap = t.tap ∧ v.pins = t.pins ∧ v.draws = t.draws

/-- A step of the core, whatever it does, changes no TAP register, no input pin, no parameter, no
model-specific register and no x87 state (R32, R47, R49, R240, R383). -/
def Obligations.CoreLeavesTapAlone : Prop :=
  ∀ s t : State, coreStep s = .next t →
    t.tap = s.tap ∧ t.pins.inp = s.pins.inp ∧ t.pins.bus = s.pins.bus ∧ t.board = s.board ∧
    t.fpu = s.fpu ∧ t.msr = s.msr ∧ t.smm = s.smm ∧ t.bfRatio = s.bfRatio ∧ t.schedule = s.schedule

/-! ### Reset and pin events -/

/-- The state after reset has the values of R410 (EDX but for its stepping digit, which is open), the TAP
those of R34; the first fetch is at FFFFFFF0h (R411). That memory lists nothing is the model's choice (logs 2, 33). -/
def Obligations.ResetStateValues : Prop :=
  State.reset.r32 .ax = 0 ∧ (State.reset.r32 .dx).extractLsb' 4 28 = 0x58 ∧
  (∀ r, r ≠ .dx → State.reset.r32 r = 0) ∧ State.reset.eip = 0x0000FFF0 ∧
  State.reset.eflags.bits = 0x00000002 ∧
  (State.reset.seg .cs).sel = 0xF000 ∧ (State.reset.seg .cs).base = 0xFFFF0000 ∧
  (∀ r, r ≠ .cs → (State.reset.seg r).sel = 0 ∧ (State.reset.seg r).base = 0) ∧
  (∀ r, (State.reset.seg r).limit = 0xFFFF) ∧
  State.reset.sys.cr0 = 0x60000010 ∧ State.reset.sys.cr2 = 0 ∧ State.reset.sys.cr3 = 0 ∧
  State.reset.sys.cr4 = 0 ∧ State.reset.sys.dr6 = 0xFFFF0FF0 ∧ State.reset.sys.dr7 = 0x00000400 ∧
  State.reset.sys.idtr = { base := 0, limit := 0xFFFF } ∧ State.reset.sys.gdtr = { base := 0, limit := 0xFFFF } ∧
  State.reset.sys.ldtr = { sel := 0, base := 0, limit := 0xFFFF } ∧
  State.reset.sys.tr = { sel := 0, base := 0, limit := 0xFFFF } ∧
  State.reset.sys.dr0 = 0 ∧ State.reset.sys.dr1 = 0 ∧ State.reset.sys.dr2 = 0 ∧ State.reset.sys.dr3 = 0 ∧
  (∀ r, (State.reset.seg r).attrs.present = true ∧ (State.reset.seg r).attrs.accessed = true) ∧
  (∀ r, r ≠ .cs → (State.reset.seg r).attrs.writable = true) ∧
  (State.reset.seg .cs).attrs.readable = true ∧ (State.reset.seg .cs).attrs.executable = true ∧
  State.reset.intShadow = false ∧ State.reset.latch.nmiPending = false ∧ State.reset.latch.nmiBlocked = false ∧
  State.reset.latch.initPending = false ∧ State.reset.latch.smiPending = false ∧
  State.reset.latch.a20Mask = State.reset.pins.inp.a20m ∧ State.reset.smm = false ∧
  State.reset.fpu.control = 0x0040 ∧ State.reset.fpu.status = 0 ∧ State.reset.fpu.tag = 0x5555 ∧
  State.reset.tsc = 0 ∧ State.reset.run = .running ∧ State.reset.dirty = [] ∧ State.reset.mem = [] ∧
  State.reset.tap.ctl = .testLogicReset ∧ State.reset.tap.irOut = State.reset.board.ir.idcode ∧
  State.reset.tap.tdo = .z ∧ State.reset.phys (State.reset.linear .cs State.reset.ip) = 0xFFFFFFF0

/-- Asserting RESET, at any point and in whatever run state, gives the core the values of R410 and resets the TAP;
memory is as it was, and while RESET stays asserted the core does nothing. At its falling edge BF[2:0] are sampled,
EAX is a free value where INIT is high, for the built-in self-test, and nothing else changes; with FLUSH# low there the
model refuses (R385, R410 to R412). The model-specific registers at 0 are the model's choice (log 3), the rest of a
warm RESET as in log 24, the attributes of CS as in log 12. -/
def Obligations.ResetPinAppliesReset : Prop :=
  (∀ s : State, s.pins.inp.reset = false → ∃ t, perform (.drive .reset true) s = .next t ∧
    (∀ r, t.r32 r = if r = .dx then s.board.cpuSignature else 0) ∧ t.eip = 0x0000FFF0 ∧
    t.eflags.bits = 0x00000002 ∧
    (t.seg .cs).sel = 0xF000 ∧ (t.seg .cs).base = 0xFFFF0000 ∧
    (∀ r, r ≠ .cs → (t.seg r).sel = 0 ∧ (t.seg r).base = 0) ∧ (∀ r, (t.seg r).limit = 0xFFFF) ∧
    t.sreg = State.reset.sreg ∧ t.sys = State.reset.sys ∧ t.sys.cr0 = 0x60000010 ∧ t.tsc = 0 ∧
    t.run = .running ∧ t.dirty = [] ∧ t.intShadow = false ∧ t.latch.nmiPending = false ∧
    t.latch.nmiBlocked = false ∧ t.latch.initPending = false ∧ t.latch.smiPending = false ∧
    t.latch.a20Mask = s.pins.inp.a20m ∧ t.fpu.control = 0x0040 ∧ t.fpu.status = 0 ∧
    t.fpu.tag = 0x5555 ∧ t.msr = Msrs.reset ∧ t.mem = s.mem ∧ t.tap.ctl = .testLogicReset ∧
    t.tap.irOut = s.board.ir.idcode ∧ t.tap.tdo = .z ∧ t.pins.inp.reset = true ∧ coreStep t = .next t) ∧
  (∀ s : State, s.pins.inp.reset = true → s.pins.inp.flush = true →
    perform (.drive .reset false) s = .refused .triStateTest) ∧
  ∀ s : State, s.pins.inp.reset = true → s.pins.inp.flush = false → ∃ t : State,
    t = { s with pins := { s.pins with inp := { s.pins.inp with reset := false } }, bfRatio := t.bfRatio } ∧
    t.bfRatio.getLsbD 0 = s.pins.inp.bf0 ∧ t.bfRatio.getLsbD 1 = s.pins.inp.bf1 ∧
    t.bfRatio.getLsbD 2 = s.pins.inp.bf2 ∧
    (s.pins.inp.init = false → perform (.drive .reset false) s = .next t) ∧
    (s.pins.inp.init = true → perform (.drive .reset false) s =
      .next { t.setR32 .ax ((Config.draw s.draws).setWidth 32) with draws := s.draws + 1 })

/-- What a change of an input pin latches: a rising edge of NMI or INIT and a falling edge of SMI# or FLUSH# set
their latches, a level held or withdrawn sets nothing and clears nothing, and A20M# is a level its mask follows
(R56, R382 to R384, R386, R388). That nothing is latched while RESET is asserted is read from R385 (log 24), the
latch of FLUSH# is the model's choice (log 29), and when A20M# takes effect as in log 28. -/
def Obligations.InputPinsLatch : Prop :=
  ∀ (s : State) (b : Bool),
    perform (.drive .nmi b) s = .next { s with
      pins := { s.pins with inp := { s.pins.inp with nmi := b } }
      latch := { s.latch with
        nmiPending := s.latch.nmiPending || (b && !s.pins.inp.nmi && !s.pins.inp.reset) } } ∧
    perform (.drive .init b) s = .next { s with
      pins := { s.pins with inp := { s.pins.inp with init := b } }
      latch := { s.latch with
        initPending := s.latch.initPending || (b && !s.pins.inp.init && !s.pins.inp.reset) } } ∧
    perform (.drive .smi b) s = .next { s with
      pins := { s.pins with inp := { s.pins.inp with smi := b } }
      latch := { s.latch with
        smiPending := s.latch.smiPending || (b && !s.pins.inp.smi && !s.pins.inp.reset) } } ∧
    perform (.drive .flush b) s = .next { s with
      pins := { s.pins with inp := { s.pins.inp with flush := b } }
      latch := { s.latch with
        flushPending := s.latch.flushPending || (b && !s.pins.inp.flush && !s.pins.inp.reset) } } ∧
    perform (.drive .a20m b) s = .next { s with
      pins := { s.pins with inp := { s.pins.inp with a20m := b } }
      latch := { s.latch with a20Mask := b } } ∧
    perform (.drive .intr b) s = .next { s with
      pins := { s.pins with inp := { s.pins.inp with intr := b } } } ∧
    perform (.drive .stpclk b) s = .next { s with
      pins := { s.pins with inp := { s.pins.inp with stpclk := b } } }

/-- INIT is recognised where its latch is set, in a core that runs, is halted or is shut down; taking it sets the
core's registers as RESET does, but keeps CD and NW of CR0, the x87 state, the model-specific registers and the time
stamp counter, and does not touch memory or the TAP (R372, R383, R410). The latches after INIT are the model's reading
(log 39), that it waits in Stop Grant is log 14, and the attributes of CS are log 12. -/
def Obligations.InitSetsRegisters : Prop :=
  (∀ s : State, Event.init ∈ s.events ↔
    (s.run = .running ∨ s.run = .halted ∨ s.run = .shutdown) ∧ s.latch.initPending = true) ∧
  ∀ s : State, ∃ t, takeEvent .init s = .next t ∧
    t.gpr = Gpr.reset s.board.cpuSignature ∧ t.eip = 0x0000FFF0 ∧ t.eflags = Eflags.reset ∧
    t.sreg = Sregs.reset ∧ t.sys = { SysRegs.reset with cr0 := t.sys.cr0 } ∧
    (∀ k, k < 32 → t.sys.cr0.getLsbD k =
      if k = 29 ∨ k = 30 then s.sys.cr0.getLsbD k else SysRegs.reset.cr0.getLsbD k) ∧
    t.fpu = s.fpu ∧ t.msr = s.msr ∧ t.tsc = s.tsc ∧ t.mem = s.mem ∧ t.tap = s.tap ∧ t.run = .running ∧
    t.latch.initPending = false ∧ t.latch.nmiPending = false ∧ t.latch.nmiBlocked = false ∧
    t.latch.smiPending = false ∧ t.latch.shadow = .none ∧ t.latch.a20Mask = s.pins.inp.a20m

/-- NMI needs its latch set, no NMI in service and no MOV SS just before, whatever IF is; taking it clears the
latch, blocks further NMIs and enters vector 2 with the pc to run next as the saved IP (R368, R382). That the
shadow keeps its cause is the model's choice (log 13). -/
def Obligations.NmiTaken : Prop :=
  (∀ s : State, s.run = .running ∨ s.run = .halted → (Event.nmi ∈ s.events ↔
    s.latch.nmiPending = true ∧ s.latch.nmiBlocked = false ∧ s.latch.shadow ≠ .movSs)) ∧
  (∀ s : State, s.canEnter 2 = true → ∃ t, takeEvent .nmi s = .next t ∧
    t = { s with latch := { s.latch with nmiPending := false, nmiBlocked := true } }.entered 2 s.ip ∧
    t.latch.nmiPending = false ∧ t.latch.nmiBlocked = true)

/-- INTR needs its pin asserted, IF set and no shadow, in a core that runs or is halted; taking it enters the
vector the platform answers, with the pc to run next as the saved IP (R368, R381). How the answer is kept is
the model's choice (log 8). -/
def Obligations.IntrTaken : Prop :=
  (∀ s : State, Event.intr ∈ s.events ↔ (s.run = .running ∨ s.run = .halted) ∧ s.pins.inp.intr = true ∧
    s.flag .intf = true ∧ s.intShadow = false) ∧
  (∀ s : State, s.canEnter (loByte s.answer.1) = true →
    takeEvent .intr s =
      .next ((s.answer.2.see (.intAck (loByte s.answer.1))).entered (loByte s.answer.1) s.ip))

/-- Where pin events are pending, a step of the core takes one of them and only one, any of them (R260, R380); an SMI
is recognised where its latch is set, in a core that runs, is halted or is in Stop Grant, and refused (R384). A
shut-down core has INIT, NMI and SMI# to take, the last two to be refused, and a stuck core nothing (R74, R372). The
free order is a free value (log 34), the stuck core is log 41, and that a blocked NMI counts in a shutdown is log 46.
-/
def Obligations.OnePendingEventIsTaken : Prop :=
  (∀ s : State, s.pins.inp.reset = false → s.pinsTaken = false → s.tap.coreNeedsReset = false →
    s.realMode = true → s.breakpointArmed = false → s.events ≠ [] →
    ∃ e ∈ s.events, ∃ n, coreStep s = settle (takeEvent e (s.drew n))) ∧
  (∀ s : State, takeEvent .smi s = .refused .smmEntry ∧ takeEvent .lateNmi s = .refused .shutdownEvent ∧
    takeEvent .lateSmi s = .refused .shutdownEvent) ∧
  (∀ s : State, Event.smi ∈ s.events ↔
    (s.run = .running ∨ s.run = .halted ∨ ∃ h, s.run = .stopGrant h) ∧ s.latch.smiPending = true) ∧
  (∀ s : State, s.run = .shutdown → ∀ e, e ∈ s.events ↔ (e = .init ∧ s.latch.initPending = true) ∨
    (e = .lateNmi ∧ s.latch.nmiPending = true) ∨ (e = .lateSmi ∧ s.latch.smiPending = true)) ∧
  ∀ s : State, s.run = .stuck → s.events = []

/-- FLUSH# is recognised where its falling edge is latched and STPCLK# where it is asserted, in a core that runs or
is halted. STPCLK# puts the core into Stop Grant and lets it back to where it was, running or halted, once it is
negated; nothing but that and an SMI is recognised there. FLUSH# changes no architectural state (R384, R386, R387).
That Stop Grant keeps where it came from is the model's choice (log 14), so is the latch of FLUSH# (log 29). -/
def Obligations.StopGrantReturns : Prop :=
  (∀ s : State, (Event.flush ∈ s.events ↔ (s.run = .running ∨ s.run = .halted) ∧ s.latch.flushPending = true) ∧
    (Event.stpclk ∈ s.events ↔ (s.run = .running ∨ s.run = .halted) ∧ s.pins.inp.stpclk = true)) ∧
  (∀ (s : State) (h : Bool), s.run = .stopGrant h → ∀ e, e ∈ s.events ↔
    (e = .smi ∧ s.latch.smiPending = true) ∨ (e = .resume ∧ s.pins.inp.stpclk = false)) ∧
  ∀ s : State, s.run = .running ∨ s.run = .halted → ∃ t, takeEvent .stpclk s = .next t ∧
    (Event.resume ∈ t.events ↔ t.pins.inp.stpclk = false) ∧ t.gpr = s.gpr ∧ t.mem = s.mem ∧
    (∃ u, takeEvent .resume t = .next u ∧ u = { t with run := s.run }) ∧
    (∃ v, takeEvent .flush s = .next v ∧
      v = { s with latch := { s.latch with flushPending := false }, trace := s.trace ++ [.flushAck] })

/-! ### Invariants -/

/-- Every step, whoever makes it, leads from a sound state to a sound state: memory in canonical form, IP
within 16 bits, real-address mode, IDTR and the segment limits as at reset, the TAP driving TDO exactly in its
shift states and its registers of their lengths, the parameters as D16 binds them, the pins of other masters
negated (R41, R43 to R45, R50, R58, R71, R170, R224). That the core stays in real-address mode is as in log 23. -/
def Obligations.StepKeepsSound : Prop :=
  ∀ s t : State, s.Sound → step s = .next t → t.Sound

/-- The state after reset is sound (R34, R410). -/
def Obligations.ResetIsSound : Prop := State.reset.Sound
end

