-- ==== Sys2Proof/Laws/Bits.lean ====
section
/-! SUPPORT. What the bit-field helpers of Machine/Bits.lean do. -/

namespace Sys2Proof.Machine

theorem putLow16_bit (x : Dword) (v : Word) (i : Nat) :
    (putLow16 x v).getLsbD i = if i < 16 then v.getLsbD i else x.getLsbD i := by
  have low : ∀ j < 16, (0xFFFF0000#32).getLsbD j = false := by decide
  have high : ∀ j < 32, 16 ≤ j → (0xFFFF0000#32).getLsbD j = true := by decide
  simp only [putLow16, BitVec.getLsbD_or, BitVec.getLsbD_and, BitVec.getLsbD_setWidth]
  by_cases h : i < 16
  · have : i < 32 := by omega
    simp only [low i h, this, h, Bool.and_false, Bool.false_or, decide_true, Bool.true_and, if_true]
  · simp only [h, if_false, BitVec.getLsbD_of_ge v i (by omega), Bool.and_false, Bool.or_false]
    by_cases h' : i < 32
    · simp only [high i h' (by omega), Bool.and_true]
    · simp only [BitVec.getLsbD_of_ge x i (by omega), Bool.false_and]

@[simp] theorem low16_putLow16 (x : Dword) (v : Word) : low16 (putLow16 x v) = v := by
  apply BitVec.eq_of_getLsbD_eq
  intro i hi
  simp only [low16, BitVec.getLsbD_setWidth, putLow16_bit, hi, decide_true, Bool.true_and, if_true]

/-- A write of the low half keeps the upper half (R40). -/
@[simp] theorem putLow16_high (x : Dword) (v : Word) :
    (putLow16 x v).extractLsb' 16 16 = x.extractLsb' 16 16 := by
  apply BitVec.eq_of_getLsbD_eq
  intro i hi
  simp [BitVec.getLsbD_extractLsb', putLow16_bit]

@[simp] theorem putLow16_putLow16 (x : Dword) (v w : Word) : putLow16 (putLow16 x v) w = putLow16 x w := by
  apply BitVec.eq_of_getLsbD_eq
  intro i _
  simp only [putLow16_bit]
  split <;> rfl

@[simp] theorem low16_zext32 (v : Word) : low16 (zext32 v) = v := by
  simp [low16, zext32]

theorem zext32_toNat (v : Word) : (zext32 v).toNat = v.toNat := by
  simp [zext32]; omega

theorem joinBytes_bit (lo hi : Byte) (i : Nat) :
    (joinBytes lo hi).getLsbD i = if i < 8 then lo.getLsbD i else hi.getLsbD (i - 8) := by
  have := BitVec.getLsbD_append (x := hi) (y := lo) (i := i)
  simpa [joinBytes] using this

@[simp] theorem loByte_joinBytes (lo hi : Byte) : loByte (joinBytes lo hi) = lo := by
  apply BitVec.eq_of_getLsbD_eq
  intro i h
  simp only [loByte, BitVec.getLsbD_extractLsb', joinBytes_bit]
  simp [h]

@[simp] theorem hiByte_joinBytes (lo hi : Byte) : hiByte (joinBytes lo hi) = hi := by
  apply BitVec.eq_of_getLsbD_eq
  intro i h
  simp only [hiByte, BitVec.getLsbD_extractLsb', joinBytes_bit]
  simp [h]

@[simp] theorem joinBytes_split (v : Word) : joinBytes (loByte v) (hiByte v) = v := by
  apply BitVec.eq_of_getLsbD_eq
  intro i h
  simp only [joinBytes_bit, loByte, hiByte, BitVec.getLsbD_extractLsb']
  by_cases h8 : i < 8
  · simp [h8]
  · have : 8 + (i - 8) = i := by omega
    have h' : i - 8 < 8 := by omega
    simp [h8, this, h']

end Sys2Proof.Machine
end

