-- ==== Sys2Proof/Laws/State.lean ====
section
/-! SUPPORT. One lemma for each field under each update of the state, so that no proof unfolds one. -/

namespace Sys2Proof.Machine

/-! `State.setR32` -/

@[simp] theorem State.setR32_eip (s : State) (r : Reg) (v : Dword) : (s.setR32 r v).eip = s.eip := by cases r <;> rfl
@[simp] theorem State.setR32_eflags (s : State) (r : Reg) (v : Dword) : (s.setR32 r v).eflags = s.eflags := by cases r <;> rfl
@[simp] theorem State.setR32_sreg (s : State) (r : Reg) (v : Dword) : (s.setR32 r v).sreg = s.sreg := by cases r <;> rfl
@[simp] theorem State.setR32_sys (s : State) (r : Reg) (v : Dword) : (s.setR32 r v).sys = s.sys := by cases r <;> rfl
@[simp] theorem State.setR32_fpu (s : State) (r : Reg) (v : Dword) : (s.setR32 r v).fpu = s.fpu := by cases r <;> rfl
@[simp] theorem State.setR32_msr (s : State) (r : Reg) (v : Dword) : (s.setR32 r v).msr = s.msr := by cases r <;> rfl
@[simp] theorem State.setR32_tsc (s : State) (r : Reg) (v : Dword) : (s.setR32 r v).tsc = s.tsc := by cases r <;> rfl
@[simp] theorem State.setR32_smm (s : State) (r : Reg) (v : Dword) : (s.setR32 r v).smm = s.smm := by cases r <;> rfl
@[simp] theorem State.setR32_run (s : State) (r : Reg) (v : Dword) : (s.setR32 r v).run = s.run := by cases r <;> rfl
@[simp] theorem State.setR32_latch (s : State) (r : Reg) (v : Dword) : (s.setR32 r v).latch = s.latch := by cases r <;> rfl
@[simp] theorem State.setR32_bfRatio (s : State) (r : Reg) (v : Dword) : (s.setR32 r v).bfRatio = s.bfRatio := by cases r <;> rfl
@[simp] theorem State.setR32_dirty (s : State) (r : Reg) (v : Dword) : (s.setR32 r v).dirty = s.dirty := by cases r <;> rfl
@[simp] theorem State.setR32_mem (s : State) (r : Reg) (v : Dword) : (s.setR32 r v).mem = s.mem := by cases r <;> rfl
@[simp] theorem State.setR32_tap (s : State) (r : Reg) (v : Dword) : (s.setR32 r v).tap = s.tap := by cases r <;> rfl
@[simp] theorem State.setR32_pins (s : State) (r : Reg) (v : Dword) : (s.setR32 r v).pins = s.pins := by cases r <;> rfl
@[simp] theorem State.setR32_draws (s : State) (r : Reg) (v : Dword) : (s.setR32 r v).draws = s.draws := by cases r <;> rfl
@[simp] theorem State.setR32_schedule (s : State) (r : Reg) (v : Dword) : (s.setR32 r v).schedule = s.schedule := by cases r <;> rfl
@[simp] theorem State.setR32_answers (s : State) (r : Reg) (v : Dword) : (s.setR32 r v).answers = s.answers := by cases r <;> rfl
@[simp] theorem State.setR32_trace (s : State) (r : Reg) (v : Dword) : (s.setR32 r v).trace = s.trace := by cases r <;> rfl
@[simp] theorem State.setR32_board (s : State) (r : Reg) (v : Dword) : (s.setR32 r v).board = s.board := by cases r <;> rfl

/-! `State.setR16` -/

@[simp] theorem State.setR16_eip (s : State) (r : Reg) (v : Word) : (s.setR16 r v).eip = s.eip := by cases r <;> rfl
@[simp] theorem State.setR16_eflags (s : State) (r : Reg) (v : Word) : (s.setR16 r v).eflags = s.eflags := by cases r <;> rfl
@[simp] theorem State.setR16_sreg (s : State) (r : Reg) (v : Word) : (s.setR16 r v).sreg = s.sreg := by cases r <;> rfl
@[simp] theorem State.setR16_sys (s : State) (r : Reg) (v : Word) : (s.setR16 r v).sys = s.sys := by cases r <;> rfl
@[simp] theorem State.setR16_fpu (s : State) (r : Reg) (v : Word) : (s.setR16 r v).fpu = s.fpu := by cases r <;> rfl
@[simp] theorem State.setR16_msr (s : State) (r : Reg) (v : Word) : (s.setR16 r v).msr = s.msr := by cases r <;> rfl
@[simp] theorem State.setR16_tsc (s : State) (r : Reg) (v : Word) : (s.setR16 r v).tsc = s.tsc := by cases r <;> rfl
@[simp] theorem State.setR16_smm (s : State) (r : Reg) (v : Word) : (s.setR16 r v).smm = s.smm := by cases r <;> rfl
@[simp] theorem State.setR16_run (s : State) (r : Reg) (v : Word) : (s.setR16 r v).run = s.run := by cases r <;> rfl
@[simp] theorem State.setR16_latch (s : State) (r : Reg) (v : Word) : (s.setR16 r v).latch = s.latch := by cases r <;> rfl
@[simp] theorem State.setR16_bfRatio (s : State) (r : Reg) (v : Word) : (s.setR16 r v).bfRatio = s.bfRatio := by cases r <;> rfl
@[simp] theorem State.setR16_dirty (s : State) (r : Reg) (v : Word) : (s.setR16 r v).dirty = s.dirty := by cases r <;> rfl
@[simp] theorem State.setR16_mem (s : State) (r : Reg) (v : Word) : (s.setR16 r v).mem = s.mem := by cases r <;> rfl
@[simp] theorem State.setR16_tap (s : State) (r : Reg) (v : Word) : (s.setR16 r v).tap = s.tap := by cases r <;> rfl
@[simp] theorem State.setR16_pins (s : State) (r : Reg) (v : Word) : (s.setR16 r v).pins = s.pins := by cases r <;> rfl
@[simp] theorem State.setR16_draws (s : State) (r : Reg) (v : Word) : (s.setR16 r v).draws = s.draws := by cases r <;> rfl
@[simp] theorem State.setR16_schedule (s : State) (r : Reg) (v : Word) : (s.setR16 r v).schedule = s.schedule := by cases r <;> rfl
@[simp] theorem State.setR16_answers (s : State) (r : Reg) (v : Word) : (s.setR16 r v).answers = s.answers := by cases r <;> rfl
@[simp] theorem State.setR16_trace (s : State) (r : Reg) (v : Word) : (s.setR16 r v).trace = s.trace := by cases r <;> rfl
@[simp] theorem State.setR16_board (s : State) (r : Reg) (v : Word) : (s.setR16 r v).board = s.board := by cases r <;> rfl

/-! `State.setR8` -/

@[simp] theorem State.setR8_eip (s : State) (r : Reg8) (v : Byte) : (s.setR8 r v).eip = s.eip := by cases r <;> rfl
@[simp] theorem State.setR8_eflags (s : State) (r : Reg8) (v : Byte) : (s.setR8 r v).eflags = s.eflags := by cases r <;> rfl
@[simp] theorem State.setR8_sreg (s : State) (r : Reg8) (v : Byte) : (s.setR8 r v).sreg = s.sreg := by cases r <;> rfl
@[simp] theorem State.setR8_sys (s : State) (r : Reg8) (v : Byte) : (s.setR8 r v).sys = s.sys := by cases r <;> rfl
@[simp] theorem State.setR8_fpu (s : State) (r : Reg8) (v : Byte) : (s.setR8 r v).fpu = s.fpu := by cases r <;> rfl
@[simp] theorem State.setR8_msr (s : State) (r : Reg8) (v : Byte) : (s.setR8 r v).msr = s.msr := by cases r <;> rfl
@[simp] theorem State.setR8_tsc (s : State) (r : Reg8) (v : Byte) : (s.setR8 r v).tsc = s.tsc := by cases r <;> rfl
@[simp] theorem State.setR8_smm (s : State) (r : Reg8) (v : Byte) : (s.setR8 r v).smm = s.smm := by cases r <;> rfl
@[simp] theorem State.setR8_run (s : State) (r : Reg8) (v : Byte) : (s.setR8 r v).run = s.run := by cases r <;> rfl
@[simp] theorem State.setR8_latch (s : State) (r : Reg8) (v : Byte) : (s.setR8 r v).latch = s.latch := by cases r <;> rfl
@[simp] theorem State.setR8_bfRatio (s : State) (r : Reg8) (v : Byte) : (s.setR8 r v).bfRatio = s.bfRatio := by cases r <;> rfl
@[simp] theorem State.setR8_dirty (s : State) (r : Reg8) (v : Byte) : (s.setR8 r v).dirty = s.dirty := by cases r <;> rfl
@[simp] theorem State.setR8_mem (s : State) (r : Reg8) (v : Byte) : (s.setR8 r v).mem = s.mem := by cases r <;> rfl
@[simp] theorem State.setR8_tap (s : State) (r : Reg8) (v : Byte) : (s.setR8 r v).tap = s.tap := by cases r <;> rfl
@[simp] theorem State.setR8_pins (s : State) (r : Reg8) (v : Byte) : (s.setR8 r v).pins = s.pins := by cases r <;> rfl
@[simp] theorem State.setR8_draws (s : State) (r : Reg8) (v : Byte) : (s.setR8 r v).draws = s.draws := by cases r <;> rfl
@[simp] theorem State.setR8_schedule (s : State) (r : Reg8) (v : Byte) : (s.setR8 r v).schedule = s.schedule := by cases r <;> rfl
@[simp] theorem State.setR8_answers (s : State) (r : Reg8) (v : Byte) : (s.setR8 r v).answers = s.answers := by cases r <;> rfl
@[simp] theorem State.setR8_trace (s : State) (r : Reg8) (v : Byte) : (s.setR8 r v).trace = s.trace := by cases r <;> rfl
@[simp] theorem State.setR8_board (s : State) (r : Reg8) (v : Byte) : (s.setR8 r v).board = s.board := by cases r <;> rfl

/-! `State.setIp` -/

@[simp] theorem State.setIp_gpr (s : State) (v : Word) : (s.setIp v).gpr = s.gpr := rfl
@[simp] theorem State.setIp_eflags (s : State) (v : Word) : (s.setIp v).eflags = s.eflags := rfl
@[simp] theorem State.setIp_sreg (s : State) (v : Word) : (s.setIp v).sreg = s.sreg := rfl
@[simp] theorem State.setIp_sys (s : State) (v : Word) : (s.setIp v).sys = s.sys := rfl
@[simp] theorem State.setIp_fpu (s : State) (v : Word) : (s.setIp v).fpu = s.fpu := rfl
@[simp] theorem State.setIp_msr (s : State) (v : Word) : (s.setIp v).msr = s.msr := rfl
@[simp] theorem State.setIp_tsc (s : State) (v : Word) : (s.setIp v).tsc = s.tsc := rfl
@[simp] theorem State.setIp_smm (s : State) (v : Word) : (s.setIp v).smm = s.smm := rfl
@[simp] theorem State.setIp_run (s : State) (v : Word) : (s.setIp v).run = s.run := rfl
@[simp] theorem State.setIp_latch (s : State) (v : Word) : (s.setIp v).latch = s.latch := rfl
@[simp] theorem State.setIp_bfRatio (s : State) (v : Word) : (s.setIp v).bfRatio = s.bfRatio := rfl
@[simp] theorem State.setIp_dirty (s : State) (v : Word) : (s.setIp v).dirty = s.dirty := rfl
@[simp] theorem State.setIp_mem (s : State) (v : Word) : (s.setIp v).mem = s.mem := rfl
@[simp] theorem State.setIp_tap (s : State) (v : Word) : (s.setIp v).tap = s.tap := rfl
@[simp] theorem State.setIp_pins (s : State) (v : Word) : (s.setIp v).pins = s.pins := rfl
@[simp] theorem State.setIp_draws (s : State) (v : Word) : (s.setIp v).draws = s.draws := rfl
@[simp] theorem State.setIp_schedule (s : State) (v : Word) : (s.setIp v).schedule = s.schedule := rfl
@[simp] theorem State.setIp_answers (s : State) (v : Word) : (s.setIp v).answers = s.answers := rfl
@[simp] theorem State.setIp_trace (s : State) (v : Word) : (s.setIp v).trace = s.trace := rfl
@[simp] theorem State.setIp_board (s : State) (v : Word) : (s.setIp v).board = s.board := rfl

/-! `State.loadSeg` -/

@[simp] theorem State.loadSeg_gpr (s : State) (r : Sreg) (v : Word) : (s.loadSeg r v).gpr = s.gpr := by cases r <;> rfl
@[simp] theorem State.loadSeg_eip (s : State) (r : Sreg) (v : Word) : (s.loadSeg r v).eip = s.eip := by cases r <;> rfl
@[simp] theorem State.loadSeg_eflags (s : State) (r : Sreg) (v : Word) : (s.loadSeg r v).eflags = s.eflags := by cases r <;> rfl
@[simp] theorem State.loadSeg_sys (s : State) (r : Sreg) (v : Word) : (s.loadSeg r v).sys = s.sys := by cases r <;> rfl
@[simp] theorem State.loadSeg_fpu (s : State) (r : Sreg) (v : Word) : (s.loadSeg r v).fpu = s.fpu := by cases r <;> rfl
@[simp] theorem State.loadSeg_msr (s : State) (r : Sreg) (v : Word) : (s.loadSeg r v).msr = s.msr := by cases r <;> rfl
@[simp] theorem State.loadSeg_tsc (s : State) (r : Sreg) (v : Word) : (s.loadSeg r v).tsc = s.tsc := by cases r <;> rfl
@[simp] theorem State.loadSeg_smm (s : State) (r : Sreg) (v : Word) : (s.loadSeg r v).smm = s.smm := by cases r <;> rfl
@[simp] theorem State.loadSeg_run (s : State) (r : Sreg) (v : Word) : (s.loadSeg r v).run = s.run := by cases r <;> rfl
@[simp] theorem State.loadSeg_latch (s : State) (r : Sreg) (v : Word) : (s.loadSeg r v).latch = s.latch := by cases r <;> rfl
@[simp] theorem State.loadSeg_bfRatio (s : State) (r : Sreg) (v : Word) : (s.loadSeg r v).bfRatio = s.bfRatio := by cases r <;> rfl
@[simp] theorem State.loadSeg_dirty (s : State) (r : Sreg) (v : Word) : (s.loadSeg r v).dirty = s.dirty := by cases r <;> rfl
@[simp] theorem State.loadSeg_mem (s : State) (r : Sreg) (v : Word) : (s.loadSeg r v).mem = s.mem := by cases r <;> rfl
@[simp] theorem State.loadSeg_tap (s : State) (r : Sreg) (v : Word) : (s.loadSeg r v).tap = s.tap := by cases r <;> rfl
@[simp] theorem State.loadSeg_pins (s : State) (r : Sreg) (v : Word) : (s.loadSeg r v).pins = s.pins := by cases r <;> rfl
@[simp] theorem State.loadSeg_draws (s : State) (r : Sreg) (v : Word) : (s.loadSeg r v).draws = s.draws := by cases r <;> rfl
@[simp] theorem State.loadSeg_schedule (s : State) (r : Sreg) (v : Word) : (s.loadSeg r v).schedule = s.schedule := by cases r <;> rfl
@[simp] theorem State.loadSeg_answers (s : State) (r : Sreg) (v : Word) : (s.loadSeg r v).answers = s.answers := by cases r <;> rfl
@[simp] theorem State.loadSeg_trace (s : State) (r : Sreg) (v : Word) : (s.loadSeg r v).trace = s.trace := by cases r <;> rfl
@[simp] theorem State.loadSeg_board (s : State) (r : Sreg) (v : Word) : (s.loadSeg r v).board = s.board := by cases r <;> rfl

/-! `State.setFlag` -/

@[simp] theorem State.setFlag_gpr (s : State) (f : Flag) (b : Bool) : (s.setFlag f b).gpr = s.gpr := by cases f <;> rfl
@[simp] theorem State.setFlag_eip (s : State) (f : Flag) (b : Bool) : (s.setFlag f b).eip = s.eip := by cases f <;> rfl
@[simp] theorem State.setFlag_sreg (s : State) (f : Flag) (b : Bool) : (s.setFlag f b).sreg = s.sreg := by cases f <;> rfl
@[simp] theorem State.setFlag_sys (s : State) (f : Flag) (b : Bool) : (s.setFlag f b).sys = s.sys := by cases f <;> rfl
@[simp] theorem State.setFlag_fpu (s : State) (f : Flag) (b : Bool) : (s.setFlag f b).fpu = s.fpu := by cases f <;> rfl
@[simp] theorem State.setFlag_msr (s : State) (f : Flag) (b : Bool) : (s.setFlag f b).msr = s.msr := by cases f <;> rfl
@[simp] theorem State.setFlag_tsc (s : State) (f : Flag) (b : Bool) : (s.setFlag f b).tsc = s.tsc := by cases f <;> rfl
@[simp] theorem State.setFlag_smm (s : State) (f : Flag) (b : Bool) : (s.setFlag f b).smm = s.smm := by cases f <;> rfl
@[simp] theorem State.setFlag_run (s : State) (f : Flag) (b : Bool) : (s.setFlag f b).run = s.run := by cases f <;> rfl
@[simp] theorem State.setFlag_latch (s : State) (f : Flag) (b : Bool) : (s.setFlag f b).latch = s.latch := by cases f <;> rfl
@[simp] theorem State.setFlag_bfRatio (s : State) (f : Flag) (b : Bool) : (s.setFlag f b).bfRatio = s.bfRatio := by cases f <;> rfl
@[simp] theorem State.setFlag_dirty (s : State) (f : Flag) (b : Bool) : (s.setFlag f b).dirty = s.dirty := by cases f <;> rfl
@[simp] theorem State.setFlag_mem (s : State) (f : Flag) (b : Bool) : (s.setFlag f b).mem = s.mem := by cases f <;> rfl
@[simp] theorem State.setFlag_tap (s : State) (f : Flag) (b : Bool) : (s.setFlag f b).tap = s.tap := by cases f <;> rfl
@[simp] theorem State.setFlag_pins (s : State) (f : Flag) (b : Bool) : (s.setFlag f b).pins = s.pins := by cases f <;> rfl
@[simp] theorem State.setFlag_draws (s : State) (f : Flag) (b : Bool) : (s.setFlag f b).draws = s.draws := by cases f <;> rfl
@[simp] theorem State.setFlag_schedule (s : State) (f : Flag) (b : Bool) : (s.setFlag f b).schedule = s.schedule := by cases f <;> rfl
@[simp] theorem State.setFlag_answers (s : State) (f : Flag) (b : Bool) : (s.setFlag f b).answers = s.answers := by cases f <;> rfl
@[simp] theorem State.setFlag_trace (s : State) (f : Flag) (b : Bool) : (s.setFlag f b).trace = s.trace := by cases f <;> rfl
@[simp] theorem State.setFlag_board (s : State) (f : Flag) (b : Bool) : (s.setFlag f b).board = s.board := by cases f <;> rfl

/-! `State.setArith` -/

@[simp] theorem State.setArith_gpr (s : State) (x : Arith) : (s.setArith x).gpr = s.gpr := rfl
@[simp] theorem State.setArith_eip (s : State) (x : Arith) : (s.setArith x).eip = s.eip := rfl
@[simp] theorem State.setArith_sreg (s : State) (x : Arith) : (s.setArith x).sreg = s.sreg := rfl
@[simp] theorem State.setArith_sys (s : State) (x : Arith) : (s.setArith x).sys = s.sys := rfl
@[simp] theorem State.setArith_fpu (s : State) (x : Arith) : (s.setArith x).fpu = s.fpu := rfl
@[simp] theorem State.setArith_msr (s : State) (x : Arith) : (s.setArith x).msr = s.msr := rfl
@[simp] theorem State.setArith_tsc (s : State) (x : Arith) : (s.setArith x).tsc = s.tsc := rfl
@[simp] theorem State.setArith_smm (s : State) (x : Arith) : (s.setArith x).smm = s.smm := rfl
@[simp] theorem State.setArith_run (s : State) (x : Arith) : (s.setArith x).run = s.run := rfl
@[simp] theorem State.setArith_latch (s : State) (x : Arith) : (s.setArith x).latch = s.latch := rfl
@[simp] theorem State.setArith_bfRatio (s : State) (x : Arith) : (s.setArith x).bfRatio = s.bfRatio := rfl
@[simp] theorem State.setArith_dirty (s : State) (x : Arith) : (s.setArith x).dirty = s.dirty := rfl
@[simp] theorem State.setArith_mem (s : State) (x : Arith) : (s.setArith x).mem = s.mem := rfl
@[simp] theorem State.setArith_tap (s : State) (x : Arith) : (s.setArith x).tap = s.tap := rfl
@[simp] theorem State.setArith_pins (s : State) (x : Arith) : (s.setArith x).pins = s.pins := rfl
@[simp] theorem State.setArith_draws (s : State) (x : Arith) : (s.setArith x).draws = s.draws := rfl
@[simp] theorem State.setArith_schedule (s : State) (x : Arith) : (s.setArith x).schedule = s.schedule := rfl
@[simp] theorem State.setArith_answers (s : State) (x : Arith) : (s.setArith x).answers = s.answers := rfl
@[simp] theorem State.setArith_trace (s : State) (x : Arith) : (s.setArith x).trace = s.trace := rfl
@[simp] theorem State.setArith_board (s : State) (x : Arith) : (s.setArith x).board = s.board := rfl

/-! `State.setProduct` -/

@[simp] theorem State.setProduct_eip (s : State) (p : Dword) : (s.setProduct p).eip = s.eip := rfl
@[simp] theorem State.setProduct_eflags (s : State) (p : Dword) : (s.setProduct p).eflags = s.eflags := rfl
@[simp] theorem State.setProduct_sreg (s : State) (p : Dword) : (s.setProduct p).sreg = s.sreg := rfl
@[simp] theorem State.setProduct_sys (s : State) (p : Dword) : (s.setProduct p).sys = s.sys := rfl
@[simp] theorem State.setProduct_fpu (s : State) (p : Dword) : (s.setProduct p).fpu = s.fpu := rfl
@[simp] theorem State.setProduct_msr (s : State) (p : Dword) : (s.setProduct p).msr = s.msr := rfl
@[simp] theorem State.setProduct_tsc (s : State) (p : Dword) : (s.setProduct p).tsc = s.tsc := rfl
@[simp] theorem State.setProduct_smm (s : State) (p : Dword) : (s.setProduct p).smm = s.smm := rfl
@[simp] theorem State.setProduct_run (s : State) (p : Dword) : (s.setProduct p).run = s.run := rfl
@[simp] theorem State.setProduct_latch (s : State) (p : Dword) : (s.setProduct p).latch = s.latch := rfl
@[simp] theorem State.setProduct_bfRatio (s : State) (p : Dword) : (s.setProduct p).bfRatio = s.bfRatio := rfl
@[simp] theorem State.setProduct_dirty (s : State) (p : Dword) : (s.setProduct p).dirty = s.dirty := rfl
@[simp] theorem State.setProduct_mem (s : State) (p : Dword) : (s.setProduct p).mem = s.mem := rfl
@[simp] theorem State.setProduct_tap (s : State) (p : Dword) : (s.setProduct p).tap = s.tap := rfl
@[simp] theorem State.setProduct_pins (s : State) (p : Dword) : (s.setProduct p).pins = s.pins := rfl
@[simp] theorem State.setProduct_draws (s : State) (p : Dword) : (s.setProduct p).draws = s.draws := rfl
@[simp] theorem State.setProduct_schedule (s : State) (p : Dword) : (s.setProduct p).schedule = s.schedule := rfl
@[simp] theorem State.setProduct_answers (s : State) (p : Dword) : (s.setProduct p).answers = s.answers := rfl
@[simp] theorem State.setProduct_trace (s : State) (p : Dword) : (s.setProduct p).trace = s.trace := rfl
@[simp] theorem State.setProduct_board (s : State) (p : Dword) : (s.setProduct p).board = s.board := rfl

/-! `State.see` -/

@[simp] theorem State.see_gpr (s : State) (e : Seen) : (s.see e).gpr = s.gpr := rfl
@[simp] theorem State.see_eip (s : State) (e : Seen) : (s.see e).eip = s.eip := rfl
@[simp] theorem State.see_eflags (s : State) (e : Seen) : (s.see e).eflags = s.eflags := rfl
@[simp] theorem State.see_sreg (s : State) (e : Seen) : (s.see e).sreg = s.sreg := rfl
@[simp] theorem State.see_sys (s : State) (e : Seen) : (s.see e).sys = s.sys := rfl
@[simp] theorem State.see_fpu (s : State) (e : Seen) : (s.see e).fpu = s.fpu := rfl
@[simp] theorem State.see_msr (s : State) (e : Seen) : (s.see e).msr = s.msr := rfl
@[simp] theorem State.see_tsc (s : State) (e : Seen) : (s.see e).tsc = s.tsc := rfl
@[simp] theorem State.see_smm (s : State) (e : Seen) : (s.see e).smm = s.smm := rfl
@[simp] theorem State.see_run (s : State) (e : Seen) : (s.see e).run = s.run := rfl
@[simp] theorem State.see_latch (s : State) (e : Seen) : (s.see e).latch = s.latch := rfl
@[simp] theorem State.see_bfRatio (s : State) (e : Seen) : (s.see e).bfRatio = s.bfRatio := rfl
@[simp] theorem State.see_dirty (s : State) (e : Seen) : (s.see e).dirty = s.dirty := rfl
@[simp] theorem State.see_mem (s : State) (e : Seen) : (s.see e).mem = s.mem := rfl
@[simp] theorem State.see_tap (s : State) (e : Seen) : (s.see e).tap = s.tap := rfl
@[simp] theorem State.see_pins (s : State) (e : Seen) : (s.see e).pins = s.pins := rfl
@[simp] theorem State.see_draws (s : State) (e : Seen) : (s.see e).draws = s.draws := rfl
@[simp] theorem State.see_schedule (s : State) (e : Seen) : (s.see e).schedule = s.schedule := rfl
@[simp] theorem State.see_answers (s : State) (e : Seen) : (s.see e).answers = s.answers := rfl
@[simp] theorem State.see_board (s : State) (e : Seen) : (s.see e).board = s.board := rfl

/-! `State.poke` -/

@[simp] theorem State.poke_gpr (s : State) (a : Nat) (v : Byte) : (s.poke a v).gpr = s.gpr := rfl
@[simp] theorem State.poke_eip (s : State) (a : Nat) (v : Byte) : (s.poke a v).eip = s.eip := rfl
@[simp] theorem State.poke_eflags (s : State) (a : Nat) (v : Byte) : (s.poke a v).eflags = s.eflags := rfl
@[simp] theorem State.poke_sreg (s : State) (a : Nat) (v : Byte) : (s.poke a v).sreg = s.sreg := rfl
@[simp] theorem State.poke_sys (s : State) (a : Nat) (v : Byte) : (s.poke a v).sys = s.sys := rfl
@[simp] theorem State.poke_fpu (s : State) (a : Nat) (v : Byte) : (s.poke a v).fpu = s.fpu := rfl
@[simp] theorem State.poke_msr (s : State) (a : Nat) (v : Byte) : (s.poke a v).msr = s.msr := rfl
@[simp] theorem State.poke_tsc (s : State) (a : Nat) (v : Byte) : (s.poke a v).tsc = s.tsc := rfl
@[simp] theorem State.poke_smm (s : State) (a : Nat) (v : Byte) : (s.poke a v).smm = s.smm := rfl
@[simp] theorem State.poke_run (s : State) (a : Nat) (v : Byte) : (s.poke a v).run = s.run := rfl
@[simp] theorem State.poke_latch (s : State) (a : Nat) (v : Byte) : (s.poke a v).latch = s.latch := rfl
@[simp] theorem State.poke_bfRatio (s : State) (a : Nat) (v : Byte) : (s.poke a v).bfRatio = s.bfRatio := rfl
@[simp] theorem State.poke_tap (s : State) (a : Nat) (v : Byte) : (s.poke a v).tap = s.tap := rfl
@[simp] theorem State.poke_pins (s : State) (a : Nat) (v : Byte) : (s.poke a v).pins = s.pins := rfl
@[simp] theorem State.poke_draws (s : State) (a : Nat) (v : Byte) : (s.poke a v).draws = s.draws := rfl
@[simp] theorem State.poke_schedule (s : State) (a : Nat) (v : Byte) : (s.poke a v).schedule = s.schedule := rfl
@[simp] theorem State.poke_answers (s : State) (a : Nat) (v : Byte) : (s.poke a v).answers = s.answers := rfl
@[simp] theorem State.poke_trace (s : State) (a : Nat) (v : Byte) : (s.poke a v).trace = s.trace := rfl
@[simp] theorem State.poke_board (s : State) (a : Nat) (v : Byte) : (s.poke a v).board = s.board := rfl

/-! `State.pokeWord` -/

@[simp] theorem State.pokeWord_gpr (s : State) (lin : Dword) (v : Word) : (s.pokeWord lin v).gpr = s.gpr := rfl
@[simp] theorem State.pokeWord_eip (s : State) (lin : Dword) (v : Word) : (s.pokeWord lin v).eip = s.eip := rfl
@[simp] theorem State.pokeWord_eflags (s : State) (lin : Dword) (v : Word) : (s.pokeWord lin v).eflags = s.eflags := rfl
@[simp] theorem State.pokeWord_sreg (s : State) (lin : Dword) (v : Word) : (s.pokeWord lin v).sreg = s.sreg := rfl
@[simp] theorem State.pokeWord_sys (s : State) (lin : Dword) (v : Word) : (s.pokeWord lin v).sys = s.sys := rfl
@[simp] theorem State.pokeWord_fpu (s : State) (lin : Dword) (v : Word) : (s.pokeWord lin v).fpu = s.fpu := rfl
@[simp] theorem State.pokeWord_msr (s : State) (lin : Dword) (v : Word) : (s.pokeWord lin v).msr = s.msr := rfl
@[simp] theorem State.pokeWord_tsc (s : State) (lin : Dword) (v : Word) : (s.pokeWord lin v).tsc = s.tsc := rfl
@[simp] theorem State.pokeWord_smm (s : State) (lin : Dword) (v : Word) : (s.pokeWord lin v).smm = s.smm := rfl
@[simp] theorem State.pokeWord_run (s : State) (lin : Dword) (v : Word) : (s.pokeWord lin v).run = s.run := rfl
@[simp] theorem State.pokeWord_latch (s : State) (lin : Dword) (v : Word) : (s.pokeWord lin v).latch = s.latch := rfl
@[simp] theorem State.pokeWord_bfRatio (s : State) (lin : Dword) (v : Word) : (s.pokeWord lin v).bfRatio = s.bfRatio := rfl
@[simp] theorem State.pokeWord_tap (s : State) (lin : Dword) (v : Word) : (s.pokeWord lin v).tap = s.tap := rfl
@[simp] theorem State.pokeWord_pins (s : State) (lin : Dword) (v : Word) : (s.pokeWord lin v).pins = s.pins := rfl
@[simp] theorem State.pokeWord_draws (s : State) (lin : Dword) (v : Word) : (s.pokeWord lin v).draws = s.draws := rfl
@[simp] theorem State.pokeWord_schedule (s : State) (lin : Dword) (v : Word) : (s.pokeWord lin v).schedule = s.schedule := rfl
@[simp] theorem State.pokeWord_answers (s : State) (lin : Dword) (v : Word) : (s.pokeWord lin v).answers = s.answers := rfl
@[simp] theorem State.pokeWord_trace (s : State) (lin : Dword) (v : Word) : (s.pokeWord lin v).trace = s.trace := rfl
@[simp] theorem State.pokeWord_board (s : State) (lin : Dword) (v : Word) : (s.pokeWord lin v).board = s.board := rfl

/-! `State.put` -/

@[simp] theorem State.put_eip (s : State) (p : Place) (v : Word) : (s.put p v).eip = s.eip := by cases p <;> simp [State.put]
@[simp] theorem State.put_eflags (s : State) (p : Place) (v : Word) : (s.put p v).eflags = s.eflags := by cases p <;> simp [State.put]
@[simp] theorem State.put_sreg (s : State) (p : Place) (v : Word) : (s.put p v).sreg = s.sreg := by cases p <;> simp [State.put]
@[simp] theorem State.put_sys (s : State) (p : Place) (v : Word) : (s.put p v).sys = s.sys := by cases p <;> simp [State.put]
@[simp] theorem State.put_fpu (s : State) (p : Place) (v : Word) : (s.put p v).fpu = s.fpu := by cases p <;> simp [State.put]
@[simp] theorem State.put_msr (s : State) (p : Place) (v : Word) : (s.put p v).msr = s.msr := by cases p <;> simp [State.put]
@[simp] theorem State.put_tsc (s : State) (p : Place) (v : Word) : (s.put p v).tsc = s.tsc := by cases p <;> simp [State.put]
@[simp] theorem State.put_smm (s : State) (p : Place) (v : Word) : (s.put p v).smm = s.smm := by cases p <;> simp [State.put]
@[simp] theorem State.put_run (s : State) (p : Place) (v : Word) : (s.put p v).run = s.run := by cases p <;> simp [State.put]
@[simp] theorem State.put_latch (s : State) (p : Place) (v : Word) : (s.put p v).latch = s.latch := by cases p <;> simp [State.put]
@[simp] theorem State.put_bfRatio (s : State) (p : Place) (v : Word) : (s.put p v).bfRatio = s.bfRatio := by cases p <;> simp [State.put]
@[simp] theorem State.put_tap (s : State) (p : Place) (v : Word) : (s.put p v).tap = s.tap := by cases p <;> simp [State.put]
@[simp] theorem State.put_pins (s : State) (p : Place) (v : Word) : (s.put p v).pins = s.pins := by cases p <;> simp [State.put]
@[simp] theorem State.put_draws (s : State) (p : Place) (v : Word) : (s.put p v).draws = s.draws := by cases p <;> simp [State.put]
@[simp] theorem State.put_schedule (s : State) (p : Place) (v : Word) : (s.put p v).schedule = s.schedule := by cases p <;> simp [State.put]
@[simp] theorem State.put_answers (s : State) (p : Place) (v : Word) : (s.put p v).answers = s.answers := by cases p <;> simp [State.put]
@[simp] theorem State.put_trace (s : State) (p : Place) (v : Word) : (s.put p v).trace = s.trace := by cases p <;> simp [State.put]
@[simp] theorem State.put_board (s : State) (p : Place) (v : Word) : (s.put p v).board = s.board := by cases p <;> simp [State.put]

/-! `State.handOver` -/

@[simp] theorem State.handOver_gpr (s : State) (a : Nat) (v : Byte) : (s.handOver a v).gpr = s.gpr := rfl
@[simp] theorem State.handOver_eip (s : State) (a : Nat) (v : Byte) : (s.handOver a v).eip = s.eip := rfl
@[simp] theorem State.handOver_eflags (s : State) (a : Nat) (v : Byte) : (s.handOver a v).eflags = s.eflags := rfl
@[simp] theorem State.handOver_sreg (s : State) (a : Nat) (v : Byte) : (s.handOver a v).sreg = s.sreg := rfl
@[simp] theorem State.handOver_sys (s : State) (a : Nat) (v : Byte) : (s.handOver a v).sys = s.sys := rfl
@[simp] theorem State.handOver_fpu (s : State) (a : Nat) (v : Byte) : (s.handOver a v).fpu = s.fpu := rfl
@[simp] theorem State.handOver_msr (s : State) (a : Nat) (v : Byte) : (s.handOver a v).msr = s.msr := rfl
@[simp] theorem State.handOver_tsc (s : State) (a : Nat) (v : Byte) : (s.handOver a v).tsc = s.tsc := rfl
@[simp] theorem State.handOver_smm (s : State) (a : Nat) (v : Byte) : (s.handOver a v).smm = s.smm := rfl
@[simp] theorem State.handOver_run (s : State) (a : Nat) (v : Byte) : (s.handOver a v).run = s.run := rfl
@[simp] theorem State.handOver_latch (s : State) (a : Nat) (v : Byte) : (s.handOver a v).latch = s.latch := rfl
@[simp] theorem State.handOver_bfRatio (s : State) (a : Nat) (v : Byte) : (s.handOver a v).bfRatio = s.bfRatio := rfl
@[simp] theorem State.handOver_mem (s : State) (a : Nat) (v : Byte) : (s.handOver a v).mem = s.mem := rfl
@[simp] theorem State.handOver_tap (s : State) (a : Nat) (v : Byte) : (s.handOver a v).tap = s.tap := rfl
@[simp] theorem State.handOver_pins (s : State) (a : Nat) (v : Byte) : (s.handOver a v).pins = s.pins := rfl
@[simp] theorem State.handOver_draws (s : State) (a : Nat) (v : Byte) : (s.handOver a v).draws = s.draws := rfl
@[simp] theorem State.handOver_schedule (s : State) (a : Nat) (v : Byte) : (s.handOver a v).schedule = s.schedule := rfl
@[simp] theorem State.handOver_answers (s : State) (a : Nat) (v : Byte) : (s.handOver a v).answers = s.answers := rfl
@[simp] theorem State.handOver_board (s : State) (a : Nat) (v : Byte) : (s.handOver a v).board = s.board := rfl

/-! `State.stick` -/

@[simp] theorem State.stick_gpr (s : State) : (s.stick).gpr = s.gpr := rfl
@[simp] theorem State.stick_eip (s : State) : (s.stick).eip = s.eip := rfl
@[simp] theorem State.stick_eflags (s : State) : (s.stick).eflags = s.eflags := rfl
@[simp] theorem State.stick_sreg (s : State) : (s.stick).sreg = s.sreg := rfl
@[simp] theorem State.stick_sys (s : State) : (s.stick).sys = s.sys := rfl
@[simp] theorem State.stick_fpu (s : State) : (s.stick).fpu = s.fpu := rfl
@[simp] theorem State.stick_msr (s : State) : (s.stick).msr = s.msr := rfl
@[simp] theorem State.stick_tsc (s : State) : (s.stick).tsc = s.tsc := rfl
@[simp] theorem State.stick_smm (s : State) : (s.stick).smm = s.smm := rfl
@[simp] theorem State.stick_latch (s : State) : (s.stick).latch = s.latch := rfl
@[simp] theorem State.stick_bfRatio (s : State) : (s.stick).bfRatio = s.bfRatio := rfl
@[simp] theorem State.stick_dirty (s : State) : (s.stick).dirty = s.dirty := rfl
@[simp] theorem State.stick_mem (s : State) : (s.stick).mem = s.mem := rfl
@[simp] theorem State.stick_tap (s : State) : (s.stick).tap = s.tap := rfl
@[simp] theorem State.stick_pins (s : State) : (s.stick).pins = s.pins := rfl
@[simp] theorem State.stick_draws (s : State) : (s.stick).draws = s.draws := rfl
@[simp] theorem State.stick_schedule (s : State) : (s.stick).schedule = s.schedule := rfl
@[simp] theorem State.stick_answers (s : State) : (s.stick).answers = s.answers := rfl
@[simp] theorem State.stick_trace (s : State) : (s.stick).trace = s.trace := rfl
@[simp] theorem State.stick_board (s : State) : (s.stick).board = s.board := rfl

/-! `State.setShadow` -/

@[simp] theorem State.setShadow_gpr (s : State) (h : Shadow) : (s.setShadow h).gpr = s.gpr := rfl
@[simp] theorem State.setShadow_eip (s : State) (h : Shadow) : (s.setShadow h).eip = s.eip := rfl
@[simp] theorem State.setShadow_eflags (s : State) (h : Shadow) : (s.setShadow h).eflags = s.eflags := rfl
@[simp] theorem State.setShadow_sreg (s : State) (h : Shadow) : (s.setShadow h).sreg = s.sreg := rfl
@[simp] theorem State.setShadow_sys (s : State) (h : Shadow) : (s.setShadow h).sys = s.sys := rfl
@[simp] theorem State.setShadow_fpu (s : State) (h : Shadow) : (s.setShadow h).fpu = s.fpu := rfl
@[simp] theorem State.setShadow_msr (s : State) (h : Shadow) : (s.setShadow h).msr = s.msr := rfl
@[simp] theorem State.setShadow_tsc (s : State) (h : Shadow) : (s.setShadow h).tsc = s.tsc := rfl
@[simp] theorem State.setShadow_smm (s : State) (h : Shadow) : (s.setShadow h).smm = s.smm := rfl
@[simp] theorem State.setShadow_run (s : State) (h : Shadow) : (s.setShadow h).run = s.run := rfl
@[simp] theorem State.setShadow_bfRatio (s : State) (h : Shadow) : (s.setShadow h).bfRatio = s.bfRatio := rfl
@[simp] theorem State.setShadow_dirty (s : State) (h : Shadow) : (s.setShadow h).dirty = s.dirty := rfl
@[simp] theorem State.setShadow_mem (s : State) (h : Shadow) : (s.setShadow h).mem = s.mem := rfl
@[simp] theorem State.setShadow_tap (s : State) (h : Shadow) : (s.setShadow h).tap = s.tap := rfl
@[simp] theorem State.setShadow_pins (s : State) (h : Shadow) : (s.setShadow h).pins = s.pins := rfl
@[simp] theorem State.setShadow_draws (s : State) (h : Shadow) : (s.setShadow h).draws = s.draws := rfl
@[simp] theorem State.setShadow_schedule (s : State) (h : Shadow) : (s.setShadow h).schedule = s.schedule := rfl
@[simp] theorem State.setShadow_answers (s : State) (h : Shadow) : (s.setShadow h).answers = s.answers := rfl
@[simp] theorem State.setShadow_trace (s : State) (h : Shadow) : (s.setShadow h).trace = s.trace := rfl
@[simp] theorem State.setShadow_board (s : State) (h : Shadow) : (s.setShadow h).board = s.board := rfl

/-! `State.jump` -/

@[simp] theorem State.jump_gpr (s : State) (t : Word) : (s.jump t).gpr = s.gpr := rfl
@[simp] theorem State.jump_eflags (s : State) (t : Word) : (s.jump t).eflags = s.eflags := rfl
@[simp] theorem State.jump_sreg (s : State) (t : Word) : (s.jump t).sreg = s.sreg := rfl
@[simp] theorem State.jump_sys (s : State) (t : Word) : (s.jump t).sys = s.sys := rfl
@[simp] theorem State.jump_fpu (s : State) (t : Word) : (s.jump t).fpu = s.fpu := rfl
@[simp] theorem State.jump_msr (s : State) (t : Word) : (s.jump t).msr = s.msr := rfl
@[simp] theorem State.jump_tsc (s : State) (t : Word) : (s.jump t).tsc = s.tsc := rfl
@[simp] theorem State.jump_smm (s : State) (t : Word) : (s.jump t).smm = s.smm := rfl
@[simp] theorem State.jump_run (s : State) (t : Word) : (s.jump t).run = s.run := rfl
@[simp] theorem State.jump_bfRatio (s : State) (t : Word) : (s.jump t).bfRatio = s.bfRatio := rfl
@[simp] theorem State.jump_mem (s : State) (t : Word) : (s.jump t).mem = s.mem := rfl
@[simp] theorem State.jump_tap (s : State) (t : Word) : (s.jump t).tap = s.tap := rfl
@[simp] theorem State.jump_pins (s : State) (t : Word) : (s.jump t).pins = s.pins := rfl
@[simp] theorem State.jump_draws (s : State) (t : Word) : (s.jump t).draws = s.draws := rfl
@[simp] theorem State.jump_schedule (s : State) (t : Word) : (s.jump t).schedule = s.schedule := rfl
@[simp] theorem State.jump_answers (s : State) (t : Word) : (s.jump t).answers = s.answers := rfl
@[simp] theorem State.jump_trace (s : State) (t : Word) : (s.jump t).trace = s.trace := rfl
@[simp] theorem State.jump_board (s : State) (t : Word) : (s.jump t).board = s.board := rfl

/-! `State.atEnd` -/

@[simp] theorem State.atEnd_gpr (s : State) (i : Instr) : (s.atEnd i).gpr = s.gpr := rfl
@[simp] theorem State.atEnd_eflags (s : State) (i : Instr) : (s.atEnd i).eflags = s.eflags := rfl
@[simp] theorem State.atEnd_sreg (s : State) (i : Instr) : (s.atEnd i).sreg = s.sreg := rfl
@[simp] theorem State.atEnd_sys (s : State) (i : Instr) : (s.atEnd i).sys = s.sys := rfl
@[simp] theorem State.atEnd_fpu (s : State) (i : Instr) : (s.atEnd i).fpu = s.fpu := rfl
@[simp] theorem State.atEnd_msr (s : State) (i : Instr) : (s.atEnd i).msr = s.msr := rfl
@[simp] theorem State.atEnd_tsc (s : State) (i : Instr) : (s.atEnd i).tsc = s.tsc := rfl
@[simp] theorem State.atEnd_smm (s : State) (i : Instr) : (s.atEnd i).smm = s.smm := rfl
@[simp] theorem State.atEnd_run (s : State) (i : Instr) : (s.atEnd i).run = s.run := rfl
@[simp] theorem State.atEnd_bfRatio (s : State) (i : Instr) : (s.atEnd i).bfRatio = s.bfRatio := rfl
@[simp] theorem State.atEnd_dirty (s : State) (i : Instr) : (s.atEnd i).dirty = s.dirty := rfl
@[simp] theorem State.atEnd_mem (s : State) (i : Instr) : (s.atEnd i).mem = s.mem := rfl
@[simp] theorem State.atEnd_tap (s : State) (i : Instr) : (s.atEnd i).tap = s.tap := rfl
@[simp] theorem State.atEnd_pins (s : State) (i : Instr) : (s.atEnd i).pins = s.pins := rfl
@[simp] theorem State.atEnd_draws (s : State) (i : Instr) : (s.atEnd i).draws = s.draws := rfl
@[simp] theorem State.atEnd_schedule (s : State) (i : Instr) : (s.atEnd i).schedule = s.schedule := rfl
@[simp] theorem State.atEnd_answers (s : State) (i : Instr) : (s.atEnd i).answers = s.answers := rfl
@[simp] theorem State.atEnd_trace (s : State) (i : Instr) : (s.atEnd i).trace = s.trace := rfl
@[simp] theorem State.atEnd_board (s : State) (i : Instr) : (s.atEnd i).board = s.board := rfl

/-! `State.drew` -/

@[simp] theorem State.drew_gpr (s : State) (n : Nat) : (s.drew n).gpr = s.gpr := rfl
@[simp] theorem State.drew_eip (s : State) (n : Nat) : (s.drew n).eip = s.eip := rfl
@[simp] theorem State.drew_eflags (s : State) (n : Nat) : (s.drew n).eflags = s.eflags := rfl
@[simp] theorem State.drew_sreg (s : State) (n : Nat) : (s.drew n).sreg = s.sreg := rfl
@[simp] theorem State.drew_sys (s : State) (n : Nat) : (s.drew n).sys = s.sys := rfl
@[simp] theorem State.drew_fpu (s : State) (n : Nat) : (s.drew n).fpu = s.fpu := rfl
@[simp] theorem State.drew_msr (s : State) (n : Nat) : (s.drew n).msr = s.msr := rfl
@[simp] theorem State.drew_tsc (s : State) (n : Nat) : (s.drew n).tsc = s.tsc := rfl
@[simp] theorem State.drew_smm (s : State) (n : Nat) : (s.drew n).smm = s.smm := rfl
@[simp] theorem State.drew_run (s : State) (n : Nat) : (s.drew n).run = s.run := rfl
@[simp] theorem State.drew_latch (s : State) (n : Nat) : (s.drew n).latch = s.latch := rfl
@[simp] theorem State.drew_bfRatio (s : State) (n : Nat) : (s.drew n).bfRatio = s.bfRatio := rfl
@[simp] theorem State.drew_dirty (s : State) (n : Nat) : (s.drew n).dirty = s.dirty := rfl
@[simp] theorem State.drew_mem (s : State) (n : Nat) : (s.drew n).mem = s.mem := rfl
@[simp] theorem State.drew_tap (s : State) (n : Nat) : (s.drew n).tap = s.tap := rfl
@[simp] theorem State.drew_pins (s : State) (n : Nat) : (s.drew n).pins = s.pins := rfl
@[simp] theorem State.drew_schedule (s : State) (n : Nat) : (s.drew n).schedule = s.schedule := rfl
@[simp] theorem State.drew_answers (s : State) (n : Nat) : (s.drew n).answers = s.answers := rfl
@[simp] theorem State.drew_trace (s : State) (n : Nat) : (s.drew n).trace = s.trace := rfl
@[simp] theorem State.drew_board (s : State) (n : Nat) : (s.drew n).board = s.board := rfl

/-! `State.enterHandler` -/

@[simp] theorem State.enterHandler_sys (s : State) (sp seg off : Word) : (s.enterHandler sp seg off).sys = s.sys := rfl
@[simp] theorem State.enterHandler_fpu (s : State) (sp seg off : Word) : (s.enterHandler sp seg off).fpu = s.fpu := rfl
@[simp] theorem State.enterHandler_msr (s : State) (sp seg off : Word) : (s.enterHandler sp seg off).msr = s.msr := rfl
@[simp] theorem State.enterHandler_tsc (s : State) (sp seg off : Word) : (s.enterHandler sp seg off).tsc = s.tsc := rfl
@[simp] theorem State.enterHandler_smm (s : State) (sp seg off : Word) : (s.enterHandler sp seg off).smm = s.smm := rfl
@[simp] theorem State.enterHandler_bfRatio (s : State) (sp seg off : Word) : (s.enterHandler sp seg off).bfRatio = s.bfRatio := rfl
@[simp] theorem State.enterHandler_mem (s : State) (sp seg off : Word) : (s.enterHandler sp seg off).mem = s.mem := rfl
@[simp] theorem State.enterHandler_tap (s : State) (sp seg off : Word) : (s.enterHandler sp seg off).tap = s.tap := rfl
@[simp] theorem State.enterHandler_pins (s : State) (sp seg off : Word) : (s.enterHandler sp seg off).pins = s.pins := rfl
@[simp] theorem State.enterHandler_draws (s : State) (sp seg off : Word) : (s.enterHandler sp seg off).draws = s.draws := rfl
@[simp] theorem State.enterHandler_schedule (s : State) (sp seg off : Word) : (s.enterHandler sp seg off).schedule = s.schedule := rfl
@[simp] theorem State.enterHandler_answers (s : State) (sp seg off : Word) : (s.enterHandler sp seg off).answers = s.answers := rfl
@[simp] theorem State.enterHandler_trace (s : State) (sp seg off : Word) : (s.enterHandler sp seg off).trace = s.trace := rfl
@[simp] theorem State.enterHandler_board (s : State) (sp seg off : Word) : (s.enterHandler sp seg off).board = s.board := rfl

/-! `State.shutDown` -/

@[simp] theorem State.shutDown_gpr (s : State) : (s.shutDown).gpr = s.gpr := rfl
@[simp] theorem State.shutDown_eip (s : State) : (s.shutDown).eip = s.eip := rfl
@[simp] theorem State.shutDown_eflags (s : State) : (s.shutDown).eflags = s.eflags := rfl
@[simp] theorem State.shutDown_sreg (s : State) : (s.shutDown).sreg = s.sreg := rfl
@[simp] theorem State.shutDown_sys (s : State) : (s.shutDown).sys = s.sys := rfl
@[simp] theorem State.shutDown_fpu (s : State) : (s.shutDown).fpu = s.fpu := rfl
@[simp] theorem State.shutDown_msr (s : State) : (s.shutDown).msr = s.msr := rfl
@[simp] theorem State.shutDown_tsc (s : State) : (s.shutDown).tsc = s.tsc := rfl
@[simp] theorem State.shutDown_smm (s : State) : (s.shutDown).smm = s.smm := rfl
@[simp] theorem State.shutDown_latch (s : State) : (s.shutDown).latch = s.latch := rfl
@[simp] theorem State.shutDown_bfRatio (s : State) : (s.shutDown).bfRatio = s.bfRatio := rfl
@[simp] theorem State.shutDown_dirty (s : State) : (s.shutDown).dirty = s.dirty := rfl
@[simp] theorem State.shutDown_mem (s : State) : (s.shutDown).mem = s.mem := rfl
@[simp] theorem State.shutDown_tap (s : State) : (s.shutDown).tap = s.tap := rfl
@[simp] theorem State.shutDown_pins (s : State) : (s.shutDown).pins = s.pins := rfl
@[simp] theorem State.shutDown_draws (s : State) : (s.shutDown).draws = s.draws := rfl
@[simp] theorem State.shutDown_schedule (s : State) : (s.shutDown).schedule = s.schedule := rfl
@[simp] theorem State.shutDown_answers (s : State) : (s.shutDown).answers = s.answers := rfl
@[simp] theorem State.shutDown_board (s : State) : (s.shutDown).board = s.board := rfl

/-! `State.setIrOut` -/

@[simp] theorem State.setIrOut_gpr (s : State) (c : List Bool) : (s.setIrOut c).gpr = s.gpr := rfl
@[simp] theorem State.setIrOut_eip (s : State) (c : List Bool) : (s.setIrOut c).eip = s.eip := rfl
@[simp] theorem State.setIrOut_eflags (s : State) (c : List Bool) : (s.setIrOut c).eflags = s.eflags := rfl
@[simp] theorem State.setIrOut_sreg (s : State) (c : List Bool) : (s.setIrOut c).sreg = s.sreg := rfl
@[simp] theorem State.setIrOut_sys (s : State) (c : List Bool) : (s.setIrOut c).sys = s.sys := rfl
@[simp] theorem State.setIrOut_fpu (s : State) (c : List Bool) : (s.setIrOut c).fpu = s.fpu := rfl
@[simp] theorem State.setIrOut_msr (s : State) (c : List Bool) : (s.setIrOut c).msr = s.msr := rfl
@[simp] theorem State.setIrOut_tsc (s : State) (c : List Bool) : (s.setIrOut c).tsc = s.tsc := rfl
@[simp] theorem State.setIrOut_smm (s : State) (c : List Bool) : (s.setIrOut c).smm = s.smm := rfl
@[simp] theorem State.setIrOut_run (s : State) (c : List Bool) : (s.setIrOut c).run = s.run := rfl
@[simp] theorem State.setIrOut_latch (s : State) (c : List Bool) : (s.setIrOut c).latch = s.latch := rfl
@[simp] theorem State.setIrOut_bfRatio (s : State) (c : List Bool) : (s.setIrOut c).bfRatio = s.bfRatio := rfl
@[simp] theorem State.setIrOut_dirty (s : State) (c : List Bool) : (s.setIrOut c).dirty = s.dirty := rfl
@[simp] theorem State.setIrOut_mem (s : State) (c : List Bool) : (s.setIrOut c).mem = s.mem := rfl
@[simp] theorem State.setIrOut_pins (s : State) (c : List Bool) : (s.setIrOut c).pins = s.pins := rfl
@[simp] theorem State.setIrOut_draws (s : State) (c : List Bool) : (s.setIrOut c).draws = s.draws := rfl
@[simp] theorem State.setIrOut_schedule (s : State) (c : List Bool) : (s.setIrOut c).schedule = s.schedule := rfl
@[simp] theorem State.setIrOut_answers (s : State) (c : List Bool) : (s.setIrOut c).answers = s.answers := rfl
@[simp] theorem State.setIrOut_trace (s : State) (c : List Bool) : (s.setIrOut c).trace = s.trace := rfl
@[simp] theorem State.setIrOut_board (s : State) (c : List Bool) : (s.setIrOut c).board = s.board := rfl

/-! `State.tapReset` -/

@[simp] theorem State.tapReset_gpr (s : State) : (s.tapReset).gpr = s.gpr := rfl
@[simp] theorem State.tapReset_eip (s : State) : (s.tapReset).eip = s.eip := rfl
@[simp] theorem State.tapReset_eflags (s : State) : (s.tapReset).eflags = s.eflags := rfl
@[simp] theorem State.tapReset_sreg (s : State) : (s.tapReset).sreg = s.sreg := rfl
@[simp] theorem State.tapReset_sys (s : State) : (s.tapReset).sys = s.sys := rfl
@[simp] theorem State.tapReset_fpu (s : State) : (s.tapReset).fpu = s.fpu := rfl
@[simp] theorem State.tapReset_msr (s : State) : (s.tapReset).msr = s.msr := rfl
@[simp] theorem State.tapReset_tsc (s : State) : (s.tapReset).tsc = s.tsc := rfl
@[simp] theorem State.tapReset_smm (s : State) : (s.tapReset).smm = s.smm := rfl
@[simp] theorem State.tapReset_run (s : State) : (s.tapReset).run = s.run := rfl
@[simp] theorem State.tapReset_latch (s : State) : (s.tapReset).latch = s.latch := rfl
@[simp] theorem State.tapReset_bfRatio (s : State) : (s.tapReset).bfRatio = s.bfRatio := rfl
@[simp] theorem State.tapReset_dirty (s : State) : (s.tapReset).dirty = s.dirty := rfl
@[simp] theorem State.tapReset_mem (s : State) : (s.tapReset).mem = s.mem := rfl
@[simp] theorem State.tapReset_pins (s : State) : (s.tapReset).pins = s.pins := rfl
@[simp] theorem State.tapReset_draws (s : State) : (s.tapReset).draws = s.draws := rfl
@[simp] theorem State.tapReset_schedule (s : State) : (s.tapReset).schedule = s.schedule := rfl
@[simp] theorem State.tapReset_answers (s : State) : (s.tapReset).answers = s.answers := rfl
@[simp] theorem State.tapReset_trace (s : State) : (s.tapReset).trace = s.trace := rfl
@[simp] theorem State.tapReset_board (s : State) : (s.tapReset).board = s.board := rfl

/-! `State.refreshOut` -/

@[simp] theorem State.refreshOut_gpr (s : State) : (s.refreshOut).gpr = s.gpr := rfl
@[simp] theorem State.refreshOut_eip (s : State) : (s.refreshOut).eip = s.eip := rfl
@[simp] theorem State.refreshOut_eflags (s : State) : (s.refreshOut).eflags = s.eflags := rfl
@[simp] theorem State.refreshOut_sreg (s : State) : (s.refreshOut).sreg = s.sreg := rfl
@[simp] theorem State.refreshOut_sys (s : State) : (s.refreshOut).sys = s.sys := rfl
@[simp] theorem State.refreshOut_fpu (s : State) : (s.refreshOut).fpu = s.fpu := rfl
@[simp] theorem State.refreshOut_msr (s : State) : (s.refreshOut).msr = s.msr := rfl
@[simp] theorem State.refreshOut_tsc (s : State) : (s.refreshOut).tsc = s.tsc := rfl
@[simp] theorem State.refreshOut_smm (s : State) : (s.refreshOut).smm = s.smm := rfl
@[simp] theorem State.refreshOut_run (s : State) : (s.refreshOut).run = s.run := rfl
@[simp] theorem State.refreshOut_latch (s : State) : (s.refreshOut).latch = s.latch := rfl
@[simp] theorem State.refreshOut_bfRatio (s : State) : (s.refreshOut).bfRatio = s.bfRatio := rfl
@[simp] theorem State.refreshOut_dirty (s : State) : (s.refreshOut).dirty = s.dirty := rfl
@[simp] theorem State.refreshOut_mem (s : State) : (s.refreshOut).mem = s.mem := rfl
@[simp] theorem State.refreshOut_tap (s : State) : (s.refreshOut).tap = s.tap := rfl
@[simp] theorem State.refreshOut_schedule (s : State) : (s.refreshOut).schedule = s.schedule := rfl
@[simp] theorem State.refreshOut_answers (s : State) : (s.refreshOut).answers = s.answers := rfl
@[simp] theorem State.refreshOut_trace (s : State) : (s.refreshOut).trace = s.trace := rfl
@[simp] theorem State.refreshOut_board (s : State) : (s.refreshOut).board = s.board := rfl

end Sys2Proof.Machine
end

