-- ==== Sys2Proof/Laws/Compute.lean ====
section
/-! SUPPORT. Running a computation: one lemma for each way to build one. -/

namespace Sys2Proof.Machine

theorem run_bind {α β : Type} (x : M α) (f : α → M β) (s : State) :
    (x >>= f) s = match x s with
      | .ok (a, t) => f a t
      | .error e => .error e := by
  show (x s >>= fun p => f p.1 p.2) = _
  cases x s <;> rfl

theorem run_bind_ok {α β : Type} {x : M α} {f : α → M β} {s t : State} {a : α} (h : x s = .ok (a, t)) :
    (x >>= f) s = f a t := by rw [run_bind, h]

theorem run_bind_error {α β : Type} {x : M α} {f : α → M β} {s : State} {e : Stop} (h : x s = .error e) :
    (x >>= f) s = .error e := by rw [run_bind, h]

@[simp] theorem run_pure {α : Type} (a : α) (s : State) : (pure a : M α) s = .ok (a, s) := rfl

@[simp] theorem run_view {α : Type} (f : State → α) (s : State) : view f s = .ok (f s, s) := rfl

@[simp] theorem run_update (f : State → State) (s : State) : update f s = .ok ((), f s) := rfl

@[simp] theorem run_raise {α : Type} (e : Exc) (s : State) : (raise e : M α) s = .error (.raise e s) := rfl

@[simp] theorem run_stopFault {α : Type} (f : Fault) (s : State) :
    (stopFault f : M α) s = .error (.fault f) := rfl

@[simp] theorem run_stopRefused {α : Type} (r : Refusal) (s : State) :
    (stopRefused r : M α) s = .error (.refused r) := rfl

@[simp] theorem run_drawBit (s : State) : drawBit s = .ok (drawBitAt s.draws, s.drew 1) := rfl

@[simp] theorem run_drawWide (s : State) : drawWide s = .ok (Config.draw s.draws, s.drew 1) := rfl

@[simp] theorem run_view_bind {α β : Type} (g : State → α) (f : α → M β) (s : State) :
    (view g >>= f) s = f (g s) s := rfl

@[simp] theorem run_update_bind {β : Type} (g : State → State) (f : Unit → M β) (s : State) :
    (update g >>= f) s = f () (g s) := rfl

@[simp] theorem run_pure_bind {α β : Type} (a : α) (f : α → M β) (s : State) :
    ((pure a : M α) >>= f) s = f a s := rfl

@[simp] theorem run_raise_bind {α β : Type} (e : Exc) (f : α → M β) (s : State) :
    ((raise e : M α) >>= f) s = .error (.raise e s) := rfl

@[simp] theorem run_drawBit_bind {β : Type} (f : Bool → M β) (s : State) :
    (drawBit >>= f) s = f (drawBitAt s.draws) (s.drew 1) := rfl

@[simp] theorem run_drawWide_bind {β : Type} (f : BitVec 64 → M β) (s : State) :
    (drawWide >>= f) s = f (Config.draw s.draws) (s.drew 1) := rfl

theorem run_need {b : State → Bool} {s : State} (h : b s = true) : need b s = .ok ((), s) := by simp [need, h]

theorem run_need_bind {β : Type} {b : State → Bool} {s : State} (f : Unit → M β) (h : b s = true) :
    (need b >>= f) s = f () s := by rw [run_bind_ok (run_need h)]

/-- An access that is not answered sticks the core (R74, R75). -/
theorem run_need_stuck {β : Type} {b : State → Bool} {s : State} (f : Unit → M β) (h : b s = false) :
    (need b >>= f) s = .error (.stuck s) := by simp [run_bind, need, h]

/-! ### How a step ends, by how its computation ended -/

section
variable {α : Type} (ok : α → State → Host.Outcome State Fault Refusal)
  (raised : Exc → State → Host.Outcome State Fault Refusal)

@[simp] theorem conclude_ok (a : α) (t : State) : conclude (.ok (a, t)) ok raised = ok a t := rfl

@[simp] theorem conclude_raise (e : Exc) (t : State) :
    conclude (.error (.raise e t)) ok raised = raised e t := rfl

@[simp] theorem conclude_stuck (t : State) : conclude (.error (.stuck t)) ok raised = .next t.stick := rfl

@[simp] theorem conclude_fault (f : Fault) : conclude (.error (.fault f)) ok raised = .fault f := rfl

@[simp] theorem conclude_refused (r : Refusal) : conclude (.error (.refused r)) ok raised = .refused r := rfl

end

/-- The value and the state of the platform's next answer. -/
theorem run_takeAnswer (s : State) :
    (∃ v rest, s.answers = v :: rest ∧ takeAnswer s = .ok (v, { s with answers := rest })) ∨
    (s.answers = [] ∧ takeAnswer s = .ok ((Config.draw s.draws).setWidth 16, s.drew 1)) := by
  unfold takeAnswer
  split
  · next v rest h => exact .inl ⟨v, rest, h, rfl⟩
  · next h => exact .inr ⟨h, rfl⟩

end Sys2Proof.Machine
end

