-- ==== Sys2Proof/Laws/Registers.lean ====
section
/-! SUPPORT. What reading a register, a flag or a segment gives after each update. -/

namespace Sys2Proof.Machine

/-! ### General registers (R40) -/

@[simp] theorem State.r32_setR32 (s : State) (r q : Reg) (v : Dword) :
    (s.setR32 r v).r32 q = if q = r then v else s.r32 q := by
  cases r <;> cases q <;> rfl

@[simp] theorem State.r16_setR16 (s : State) (r q : Reg) (v : Word) :
    (s.setR16 r v).r16 q = if q = r then v else s.r16 q := by
  simp only [State.r16, State.setR16, State.r32_setR32]
  split
  · next h => subst h; exact low16_putLow16 _ _
  · rfl

/-- Bits 31:16 of every register survive a 16-bit write (R40). -/
theorem State.setR16_upper (s : State) (r q : Reg) (v : Word) :
    ((s.setR16 r v).r32 q).extractLsb' 16 16 = (s.r32 q).extractLsb' 16 16 := by
  simp only [State.setR16, State.r32_setR32]
  split
  · next h => subst h; exact putLow16_high _ _
  · rfl

theorem State.r32_of_gpr {s t : State} (h : t.gpr = s.gpr) (r : Reg) : t.r32 r = s.r32 r := by
  cases r <;> simp only [State.r32, h]

theorem State.r16_of_gpr {s t : State} (h : t.gpr = s.gpr) (r : Reg) : t.r16 r = s.r16 r := by
  simp only [State.r16, State.r32_of_gpr h]

theorem State.seg_of_sreg {s t : State} (h : t.sreg = s.sreg) (r : Sreg) : t.seg r = s.seg r := by
  cases r <;> simp only [State.seg, h]

theorem State.flag_of_eflags {s t : State} (h : t.eflags = s.eflags) (f : Flag) : t.flag f = s.flag f := by
  cases f <;> simp only [State.flag, h]

/-! ### Flags (R42) -/

@[simp] theorem State.flag_setFlag (s : State) (f g : Flag) (b : Bool) :
    (s.setFlag f b).flag g = if g = f then b else s.flag g := by
  cases f <;> cases g <;> rfl

/-- The six arithmetic flags, and the others kept. -/
theorem State.flag_setArith (s : State) (x : Arith) (g : Flag) :
    (s.setArith x).flag g = match g with
      | .cf => x.cf
      | .pf => x.pf
      | .af => x.af
      | .zf => x.zf
      | .sf => x.sf
      | .ovf => x.ovf
      | g => s.flag g := by
  cases g <;> rfl

@[simp] theorem State.setArith_tf (s : State) (x : Arith) : (s.setArith x).flag .tf = s.flag .tf := rfl

@[simp] theorem State.setArith_intf (s : State) (x : Arith) : (s.setArith x).flag .intf = s.flag .intf := rfl

theorem Eflags.bits16_bit (e : Eflags) (i : Nat) : e.bits16.getLsbD i = e.low.getD i false := BitVec.getLsbD_ofBoolListLE

theorem Eflags.bits_bit (e : Eflags) (i : Nat) : e.bits.getLsbD i = (e.low ++ e.high).getD i false := BitVec.getLsbD_ofBoolListLE

/-! ### Segments (R43) -/

@[simp] theorem State.seg_loadSeg (s : State) (r q : Sreg) (v : Word) :
    (s.loadSeg r v).seg q = if q = r then (s.seg q).load v else s.seg q := by
  cases r <;> cases q <;> rfl

@[simp] theorem SegReg.load_limit (g : SegReg) (v : Word) : (g.load v).limit = g.limit := rfl

@[simp] theorem SegReg.load_sel (g : SegReg) (v : Word) : (g.load v).sel = v := rfl

@[simp] theorem SegReg.load_base (g : SegReg) (v : Word) : (g.load v).base = selBase v := rfl

@[simp] theorem SegReg.load_attrs (g : SegReg) (v : Word) : (g.load v).attrs = g.attrs := rfl

/-! ### Program counter (R41) -/

@[simp] theorem State.ip_setIp (s : State) (v : Word) : (s.setIp v).ip = v := low16_zext32 v

theorem State.ip_of_eip {s t : State} (h : t.eip = s.eip) : t.ip = s.ip := by
  simp only [State.ip, h]

theorem State.nextIp_of_eip {s t : State} (h : t.eip = s.eip) (i : Instr) : t.nextIp i = s.nextIp i := by
  simp only [State.nextIp, State.ip_of_eip h]

end Sys2Proof.Machine
end

