-- ==== Sys2Proof/Laws/Memory.lean ====
section
/-! SUPPORT. Memory: read after write, the canonical form, and what each access does. -/

namespace Sys2Proof.Machine

/-! ### The list of cells -/

/-- A read after a write of one byte. -/
theorem Memory.get_set (m : List Host.Cell) (a b : Nat) (v : Byte) :
    Memory.get (Memory.set m a v) b = if b = a then some v else Memory.get m b := by
  induction m with
  | nil => simp [Memory.set, Memory.get]
  | cons c rest ih =>
    obtain ⟨k, w⟩ := c
    simp only [Memory.set]
    split
    · simp only [Memory.get]
    · split
      · next h => subst h; simp only [Memory.get]; split <;> rfl
      · next h =>
        simp only [Memory.get, ih]
        by_cases h1 : b = k
        · have : b ≠ a := by omega
          simp [h1]; omega
        · simp [h1]

theorem Memory.risingFrom_set {m : List Host.Cell} {k a : Nat} {v : Byte} (h : Memory.risingFrom k m = true)
    (hk : k < a) : Memory.risingFrom k (Memory.set m a v) = true := by
  induction m generalizing k with
  | nil => simp [Memory.set, Memory.risingFrom, hk]
  | cons c rest ih =>
    obtain ⟨b, w⟩ := c
    simp only [Memory.risingFrom, Bool.and_eq_true, decide_eq_true_eq] at h
    simp only [Memory.set]
    split
    · next h1 => simp [Memory.risingFrom, hk, h1, h.2]
    · split
      · next h2 => subst h2; simp [Memory.risingFrom, hk, h.2]
      · simp only [Memory.risingFrom, Bool.and_eq_true, decide_eq_true_eq]
        exact ⟨h.1, ih h.2 (by omega)⟩

theorem Memory.all_set {m : List Host.Cell} {a : Nat} {v : Byte} {p : Nat → Bool}
    (h : (m.all fun c => p c.1) = true) (ha : p a = true) : ((Memory.set m a v).all fun c => p c.1) = true := by
  induction m with
  | nil => simp [Memory.set, ha]
  | cons c rest ih =>
    obtain ⟨b, w⟩ := c
    simp only [List.all_cons, Bool.and_eq_true] at h
    simp only [Memory.set]
    split
    · simp only [List.all_cons, Bool.and_eq_true]; exact ⟨ha, h.1, h.2⟩
    · split
      · simp only [List.all_cons, Bool.and_eq_true]; exact ⟨ha, h.2⟩
      · simp only [List.all_cons, Bool.and_eq_true]; exact ⟨h.1, ih h.2⟩

theorem Memory.rising_set {m : List Host.Cell} {a : Nat} {v : Byte} (h : Memory.rising m = true) :
    Memory.rising (Memory.set m a v) = true := by
  cases m with
  | nil => rfl
  | cons c rest =>
    obtain ⟨b, w⟩ := c
    simp only [Memory.set]
    split
    · next h1 => simp only [Memory.rising, Memory.risingFrom, Bool.and_eq_true, decide_eq_true_eq]; exact ⟨h1, h⟩
    · split
      · next h2 => subst h2; exact h
      · next h2 h3 => exact Memory.risingFrom_set h (by omega)

/-- A write inside the address space keeps the canonical form. -/
theorem Memory.wf_set {m : List Host.Cell} {a : Nat} {v : Byte} (h : Memory.wf m = true) (ha : a < 2 ^ 32) :
    Memory.wf (Memory.set m a v) = true := by
  simp only [Memory.wf, Bool.and_eq_true] at h ⊢
  exact ⟨Memory.rising_set h.1, Memory.all_set (p := fun k => decide (k < 2 ^ 32)) h.2 (by simpa using ha)⟩

theorem setInsert_mem (l : List Nat) (a x : Nat) : x ∈ setInsert l a ↔ x = a ∨ x ∈ l := by
  induction l with
  | nil => simp [setInsert]
  | cons b t ih =>
    simp only [setInsert]
    split
    · simp
    · split
      · next h => subst h; simp
      · simp only [List.mem_cons, ih]; tauto

theorem setInsert_rising {l : List Nat} (h : l.Pairwise (· < ·)) (a : Nat) :
    (setInsert l a).Pairwise (· < ·) := by
  induction l with
  | nil => simp [setInsert]
  | cons b t ih =>
    have hb := List.pairwise_cons.1 h
    simp only [setInsert]
    split
    · next h1 =>
      refine List.pairwise_cons.2 ⟨fun x hx => ?_, h⟩
      rcases List.mem_cons.1 hx with rfl | hx
      · exact h1
      · exact h1.trans (hb.1 x hx)
    · split
      · exact h
      · next h1 h2 =>
        refine List.pairwise_cons.2 ⟨fun x hx => ?_, ih hb.2⟩
        rcases (setInsert_mem t a x).1 hx with rfl | hx
        · omega
        · exact hb.1 x hx

/-! ### Addresses -/

theorem State.phys_lt (s : State) (lin : Dword) : s.phys lin < 2 ^ 32 := BitVec.isLt _

theorem State.phys_of_latch {s t : State} (h : t.latch.a20Mask = s.latch.a20Mask) (lin : Dword) :
    t.phys lin = s.phys lin := by simp only [State.phys, h]

theorem State.linear_of_sreg {s t : State} (h : t.sreg = s.sreg) (r : Sreg) (off : Word) :
    t.linear r off = s.linear r off := by simp only [State.linear, State.seg_of_sreg h]

theorem State.inLimit_of_sreg {s t : State} (h : t.sreg = s.sreg) (r : Sreg) (off : Word) (n : Nat) :
    t.inLimit r off n = s.inLimit r off n := by simp only [State.inLimit, State.seg_of_sreg h]

theorem State.storable_of {s t : State} (h : t.latch.a20Mask = s.latch.a20Mask) (hb : t.board = s.board)
    (lin : Dword) : t.storable lin = s.storable lin := by
  simp only [State.storable, State.phys_of_latch h, hb]

theorem State.peekByte_of {s t : State} (h : t.latch.a20Mask = s.latch.a20Mask) (hb : t.board = s.board)
    (hm : t.mem = s.mem) (lin : Dword) : t.peekByte lin = s.peekByte lin := by
  simp only [State.peekByte, State.phys_of_latch h, hb, hm]

theorem State.peekWord_of {s t : State} (h : t.latch.a20Mask = s.latch.a20Mask) (hb : t.board = s.board)
    (hm : t.mem = s.mem) (lin : Dword) : t.peekWord lin = s.peekWord lin := by
  simp only [State.peekWord, State.peekByte_of h hb hm]

/-! ### Accesses -/

theorem State.answered_of_peek {s : State} {lin : Dword} {v : Byte} (h : s.peekByte lin = some v) :
    s.answered lin = true := by
  unfold State.peekByte at h
  unfold State.answered
  cases hk : s.board.kindAt (s.phys lin) <;> simp_all [RegionKind.answersRead]

theorem State.accepted_of_ram {s : State} {lin : Dword} (h : s.board.kindAt (s.phys lin) = .ram) :
    s.accepted lin = true := by simp [State.accepted, h, RegionKind.acceptsWrite]

/-- A byte RAM or ROM holds is read with no effect. -/
theorem readByte_peek {s : State} {lin : Dword} {v : Byte} (h : s.peekByte lin = some v) :
    readByte lin s = .ok (v, s) := by
  have ha : s.answered lin = true := State.answered_of_peek h
  rw [readByte, run_need_bind _ ha]
  unfold State.peekByte at h
  simp only [run_view_bind]
  cases hk : s.board.kindAt (s.phys lin) <;> simp_all [readHeld]

theorem State.peekWord_some {s : State} {lin : Dword} {v : Word} (h : s.peekWord lin = some v) :
    ∃ lo hi, s.peekByte lin = some lo ∧ s.peekByte (lin + 1) = some hi ∧ v = joinBytes lo hi := by
  unfold State.peekWord at h
  split at h
  · next lo hi h1 h2 => exact ⟨lo, hi, h1, h2, by simpa using h.symm⟩
  · cases h

/-- A word RAM or ROM holds is read with no effect. -/
theorem readWord_peek {s : State} {lin : Dword} {v : Word} (h : s.peekWord lin = some v) :
    readWord lin s = .ok (v, s) := by
  obtain ⟨lo, hi, h1, h2, rfl⟩ := State.peekWord_some h
  rw [readWord, run_need_bind _ (by rw [State.answered_of_peek h1, State.answered_of_peek h2]; rfl),
    run_bind_ok (readByte_peek h1), run_bind_ok (readByte_peek h2)]
  rfl

theorem writeByte_ram {s : State} {lin : Dword} (v : Byte) (h : s.board.kindAt (s.phys lin) = .ram) :
    writeByte lin v s = .ok ((), s.poke (s.phys lin) v) := by
  rw [writeByte, run_need_bind _ (State.accepted_of_ram h)]
  simp only [run_view_bind, h, run_update]

/-- A word is stored to RAM. -/
theorem writeWord_ram {s : State} {lin : Dword} (v : Word) (h : s.storable lin = true) :
    writeWord lin v s = .ok ((), s.pokeWord lin v) := by
  simp only [State.storable, Bool.and_eq_true, decide_eq_true_eq] at h
  rw [writeWord, run_need_bind _ (by rw [State.accepted_of_ram h.1, State.accepted_of_ram h.2]; rfl),
    run_bind_ok (writeByte_ram _ h.1), writeByte_ram]
  · rfl
  · exact h.2

/-- A byte of a volatile region is the platform's next answer (R86). -/
theorem readByte_volatile {s : State} {lin : Dword} (h : s.board.kindAt (s.phys lin) = .volatile) :
    readByte lin s = .ok (loByte s.answer.1, s.answer.2.see (.memRead (s.phys lin) (loByte s.answer.1))) := by
  rw [readByte, run_need_bind _ (by simp [State.answered, h, RegionKind.answersRead])]
  simp only [run_view_bind, h, State.answer]
  rcases run_takeAnswer s with ⟨v, rest, e, r⟩ | ⟨e, r⟩ <;> rw [run_bind_ok r, e] <;> rfl

/-- A byte that does not go to RAM and completes is handed over (R75). -/
theorem writeByte_handOver {s : State} {lin : Dword} (v : Byte) (h : s.accepted lin = true)
    (hr : s.board.kindAt (s.phys lin) ≠ .ram) : writeByte lin v s = .ok ((), s.handOver (s.phys lin) v) := by
  rw [writeByte, run_need_bind _ h]
  simp only [run_view_bind]
  cases hk : s.board.kindAt (s.phys lin) <;> first | exact absurd hk hr | rfl

/-- A two-byte access of which a byte is not answered sticks the core with no step (R74). -/
theorem readWord_stuck {s : State} {lin : Dword} (h : (s.answered lin && s.answered (lin + 1)) = false) :
    readWord lin s = .error (.stuck s) := run_need_stuck _ h

/-- A two-byte store of which a byte does not complete sticks the core with nothing stored (R75). -/
theorem writeWord_stuck {s : State} {lin : Dword} (v : Word)
    (h : (s.accepted lin && s.accepted (lin + 1)) = false) : writeWord lin v s = .error (.stuck s) :=
  run_need_stuck _ h

theorem checkLimit_ok {s : State} {r : Sreg} {off : Word} {n : Nat} (h : s.inLimit r off n = true) :
    checkLimit r off n s = .ok ((), s) := by
  simp [checkLimit, h]

theorem checkLimit_fail {s : State} {r : Sreg} {off : Word} {n : Nat} (h : s.inLimit r off n = false) :
    checkLimit r off n s = .error (.raise (limitExc r) s) := by
  simp [checkLimit, h]

theorem checkTarget_ok {s : State} {t : Word} (h : s.inLimit .cs t 1 = true) :
    checkTarget t s = .ok ((), s) := by
  simp [checkTarget, h]

/-! ### Bytes and words after a store -/

@[simp] theorem State.pokeWord_mem (s : State) (lin : Dword) (v : Word) :
    (s.pokeWord lin v).mem =
      Memory.set (Memory.set s.mem (s.phys lin) (loByte v)) (s.phys (lin + 1)) (hiByte v) := rfl

/-- Every byte outside the two stored to is as before. -/
theorem State.pokeWord_get {s : State} {lin : Dword} {v : Word} {a : Nat} (h : a ∉ s.wordAt lin) :
    Memory.get (s.pokeWord lin v).mem a = Memory.get s.mem a := by
  simp only [State.wordAt, List.mem_cons, List.not_mem_nil, or_false, not_or] at h
  rw [State.pokeWord_mem, Memory.get_set, if_neg h.2, Memory.get_set, if_neg h.1]

theorem State.pokeWord_wf {s : State} (lin : Dword) (v : Word) (h : Memory.wf s.mem = true) :
    Memory.wf (s.pokeWord lin v).mem = true :=
  Memory.wf_set (Memory.wf_set h (s.phys_lt _)) (s.phys_lt _)

end Sys2Proof.Machine
end

