-- ==== Sys2Proof/Laws/Operands.lean ====
section
/-! SUPPORT. What each operand form does, once for every meaning (R111). -/

namespace Sys2Proof.Machine

/-- The located operand. -/
def State.locOf (s : State) : Place → Loc
  | .reg r => .reg r
  | .mem sg off => .mem (s.linear sg off)

theorem locatePlace_ok {s : State} {p : Place} (h : s.inBounds p = true) :
    locatePlace p s = .ok (s.locOf p, s) := by
  cases p with
  | reg r => rfl
  | mem sg off => rw [locatePlace, run_bind_ok (checkLimit_ok h)]; rfl

theorem locatePlace_fail {s : State} {sg : Sreg} {off : Word} (h : s.inLimit sg off 2 = false) :
    locatePlace (.mem sg off) s = .error (.raise (limitExc sg) s) := by
  rw [locatePlace, run_bind_error (checkLimit_fail h)]

theorem locate_eq (s : State) (rm : Rm) : locate rm s = locatePlace (s.place rm) s := rfl

theorem State.inBounds_of_holdsAt {s : State} {p : Place} {v : Word} (h : s.holdsAt p = some v) :
    s.inBounds p = true := by
  cases p with
  | reg r => rfl
  | mem sg off => by_contra hc; simp_all [State.holdsAt, State.inBounds]

theorem State.inBounds_of_takes {s : State} {p : Place} (h : s.takes p = true) : s.inBounds p = true := by
  cases p with
  | reg r => rfl
  | mem sg off => simp_all [State.takes, State.inBounds]

theorem readLoc_ok {s : State} {p : Place} {v : Word} (h : s.holdsAt p = some v) :
    readLoc (s.locOf p) s = .ok (v, s) := by
  cases p with
  | reg r => simp_all [State.holdsAt, State.locOf, readLoc]
  | mem sg off =>
    simp only [State.holdsAt] at h
    split at h
    · exact readWord_peek h
    · cases h

theorem writeLoc_ok {s : State} {p : Place} (v : Word) (h : s.takes p = true) :
    writeLoc (s.locOf p) v s = .ok ((), s.put p v) := by
  cases p with
  | reg r => rfl
  | mem sg off =>
    simp only [State.takes, Bool.and_eq_true] at h
    exact writeWord_ram v h.2

/-- A write of an operand located in an earlier state that addresses memory the same way. -/
theorem writeLoc_later {s t : State} {p : Place} (v : Word) (h : s.takes p = true) (hs : t.sreg = s.sreg)
    (hl : t.latch = s.latch) (hb : t.board = s.board) :
    writeLoc (s.locOf p) v t = .ok ((), t.put p v) := by
  have h1 : t.locOf p = s.locOf p := by
    cases p <;> simp only [State.locOf, State.linear_of_sreg hs]
  have h2 : t.takes p = true := by
    rw [← h]
    cases p <;> simp only [State.takes, State.inLimit_of_sreg hs, State.linear_of_sreg hs,
      State.storable_of (congrArg Latches.a20Mask hl) hb]
  rw [← h1]
  exact writeLoc_ok v h2

/-- A read of an r/m operand. -/
theorem readRm_ok {s : State} {rm : Rm} {v : Word} (h : s.holdsAt (s.place rm) = some v) :
    readRm rm s = .ok (v, s) := by
  rw [readRm, run_bind_ok (by rw [locate_eq, locatePlace_ok (State.inBounds_of_holdsAt h)]), readLoc_ok h]

/-- A write of an r/m operand. -/
theorem writeRm_ok {s : State} {rm : Rm} (v : Word) (h : s.takes (s.place rm) = true) :
    writeRm rm v s = .ok ((), s.put (s.place rm) v) := by
  rw [writeRm, run_bind_ok (by rw [locate_eq, locatePlace_ok (State.inBounds_of_takes h)]), writeLoc_ok v h]

/-! ### The frames of a meaning -/

theorem straightShadow_ok {i : Instr} {body : M Shadow} {s t : State} {h : Shadow}
    (hf : s.mayFinish i = true) (hb : body s = .ok (h, t)) (ht : t.flag .tf = s.flag .tf) :
    straightShadow i body s = .next ((t.setIp (s.nextIp i)).setShadow h) := by
  simp only [State.mayFinish, Bool.and_eq_true, Bool.not_eq_true'] at hf
  have : ((t.setIp (s.nextIp i)).setShadow h).flag .tf = false := by
    rw [← hf.2, ← ht]; rfl
  simp [straightShadow, hf.1, hb, complete, this]

/-- An instruction whose body completes ends at `next_ip`. -/
theorem straight_ok {i : Instr} {body : M Unit} {s t : State} (hf : s.mayFinish i = true)
    (hb : body s = .ok ((), t)) (ht : t.flag .tf = s.flag .tf) (he : t.eip = s.eip) :
    straight i body s = .next (t.atEnd i) := by
  rw [straight, straightShadow_ok hf (run_bind_ok hb) ht, State.atEnd, State.nextIp_of_eip he]

/-- An instruction whose body raises takes that exception (R361). -/
theorem straight_raise {i : Instr} {body : M Unit} {s t : State} {e : Exc} (hp : s.pastLimit i = false)
    (hb : body s = .error (.raise e t)) : straight i body s = deliverFault e t := by
  simp [straight, straightShadow, hp, run_bind_error hb]

/-- An instruction that would end past FFFFh is a fault (R108). -/
theorem straight_past {i : Instr} {body : M Unit} {s : State} (hp : s.pastLimit i = true) :
    straight i body s = .fault .fetchPastLimit := by
  simp [straight, straightShadow, hp]

/-- A saved `next_ip` that does not pass FFFFh (R41). -/
theorem savedIp_ok {s : State} {i : Instr} (h : s.pastLimit i = false) : savedIp i s = .ok (s.nextIp i, s) := by
  simp [savedIp, h]

/-- A saved `next_ip` past FFFFh is a fault (R41). -/
theorem savedIp_past {s : State} {i : Instr} (h : s.pastLimit i = true) :
    savedIp i s = .error (.fault .fetchPastLimit) := by
  simp [savedIp, h]

/-- A taken transfer (R305). -/
theorem transfer_taken {i : Instr} {body : M Flow} {s t : State} {target : Word}
    (hb : body s = .ok (.goto target, t)) (ht : t.flag .tf = false) :
    transfer i body s = .next (t.jump target) := by
  have : (t.jump target).flag .tf = false := by rw [← ht]; rfl
  simp [transfer, hb, follow, complete, this]

/-- A transfer not taken. -/
theorem transfer_next {i : Instr} {body : M Flow} {s t : State} (hb : body s = .ok (.next, t))
    (hp : s.pastLimit i = false) (ht : t.flag .tf = false) (he : t.eip = s.eip) :
    transfer i body s = .next (t.atEnd i) := by
  have : ((t.setIp (s.nextIp i)).setShadow .none).flag .tf = false := by rw [← ht]; rfl
  simp [transfer, hb, hp, follow, complete, this, State.atEnd, State.nextIp_of_eip he]

/-- A transfer whose body raises takes that exception. -/
theorem transfer_raise {i : Instr} {body : M Flow} {s t : State} {e : Exc}
    (hb : body s = .error (.raise e t)) : transfer i body s = deliverFault e t := by
  simp [transfer, hb]

end Sys2Proof.Machine
end

