-- ==== Sys2Proof/Laws/Carries.lean ====
section
/-! SUPPORT. What every shared operation of the core carries from one state to the next, however it
ends: said once for each, and once for each way to put two together. -/

namespace Sys2Proof.Machine

set_option Elab.async false

/-- What no operation of the core changes, and what each keeps true. -/
structure Carries (s t : State) : Prop where
  tap : t.tap = s.tap
  pins : t.pins = s.pins
  board : t.board = s.board
  schedule : t.schedule = s.schedule
  sys : t.sys = s.sys
  fpu : t.fpu = s.fpu
  msr : t.msr = s.msr
  smm : t.smm = s.smm
  bfRatio : t.bfRatio = s.bfRatio
  a20 : t.latch.a20Mask = s.latch.a20Mask
  limit : ∀ r, (t.seg r).limit = (s.seg r).limit
  memory : Memory.wf s.mem = true → Memory.wf t.mem = true
  dirty : s.dirty.Pairwise (· < ·) → t.dirty.Pairwise (· < ·)
  eip : s.eip.toNat < 2 ^ 16 → t.eip.toNat < 2 ^ 16
  tsc : s.tsc.toNat ≤ t.tsc.toNat

theorem Carries.rfl' (s : State) : Carries s s :=
  ⟨rfl, rfl, rfl, rfl, rfl, rfl, rfl, rfl, rfl, rfl, fun _ => rfl, id, id, id, Nat.le_refl _⟩

theorem Carries.trans {s t u : State} (h : Carries s t) (k : Carries t u) : Carries s u :=
  ⟨k.tap.trans h.tap, k.pins.trans h.pins, k.board.trans h.board, k.schedule.trans h.schedule,
    k.sys.trans h.sys, k.fpu.trans h.fpu, k.msr.trans h.msr, k.smm.trans h.smm, k.bfRatio.trans h.bfRatio,
    k.a20.trans h.a20, fun r => (k.limit r).trans (h.limit r), k.memory ∘ h.memory, k.dirty ∘ h.dirty,
    k.eip ∘ h.eip, h.tsc.trans k.tsc⟩

/-! ### Updates -/

theorem carries_setR32 (s : State) (r : Reg) (v : Dword) : Carries s (s.setR32 r v) := by
  cases r <;> exact ⟨rfl, rfl, rfl, rfl, rfl, rfl, rfl, rfl, rfl, rfl, fun _ => rfl, id, id, id, Nat.le_refl _⟩

theorem carries_setR16 (s : State) (r : Reg) (v : Word) : Carries s (s.setR16 r v) := carries_setR32 _ _ _

theorem carries_setR8 (s : State) (r : Reg8) (v : Byte) : Carries s (s.setR8 r v) := by
  unfold State.setR8
  split <;> exact carries_setR32 _ _ _

theorem carries_setFlag (s : State) (f : Flag) (b : Bool) : Carries s (s.setFlag f b) := by
  cases f <;> exact ⟨rfl, rfl, rfl, rfl, rfl, rfl, rfl, rfl, rfl, rfl, fun _ => rfl, id, id, id, Nat.le_refl _⟩

theorem carries_setArith (s : State) (x : Arith) : Carries s (s.setArith x) :=
  ⟨rfl, rfl, rfl, rfl, rfl, rfl, rfl, rfl, rfl, rfl, fun _ => rfl, id, id, id, Nat.le_refl _⟩

theorem carries_loadSeg (s : State) (r : Sreg) (v : Word) : Carries s (s.loadSeg r v) := by
  cases r <;> exact ⟨rfl, rfl, rfl, rfl, rfl, rfl, rfl, rfl, rfl, rfl, fun q => by cases q <;> rfl, id, id, id, Nat.le_refl _⟩

theorem carries_setIp (s : State) (v : Word) : Carries s (s.setIp v) :=
  ⟨rfl, rfl, rfl, rfl, rfl, rfl, rfl, rfl, rfl, rfl, fun _ => rfl, id, id,
    fun _ => by show (zext32 v).toNat < _; rw [zext32_toNat]; exact v.isLt, Nat.le_refl _⟩

theorem carries_setShadow (s : State) (h : Shadow) : Carries s (s.setShadow h) :=
  ⟨rfl, rfl, rfl, rfl, rfl, rfl, rfl, rfl, rfl, rfl, fun _ => rfl, id, id, id, Nat.le_refl _⟩

theorem carries_see (s : State) (e : Seen) : Carries s (s.see e) :=
  ⟨rfl, rfl, rfl, rfl, rfl, rfl, rfl, rfl, rfl, rfl, fun _ => rfl, id, id, id, Nat.le_refl _⟩

theorem carries_drew (s : State) (n : Nat) : Carries s (s.drew n) :=
  ⟨rfl, rfl, rfl, rfl, rfl, rfl, rfl, rfl, rfl, rfl, fun _ => rfl, id, id, id, Nat.le_refl _⟩

theorem carries_run (s : State) (r : RunState) : Carries s { s with run := r } :=
  ⟨rfl, rfl, rfl, rfl, rfl, rfl, rfl, rfl, rfl, rfl, fun _ => rfl, id, id, id, Nat.le_refl _⟩

theorem carries_clean (s : State) : Carries s { s with dirty := [] } :=
  ⟨rfl, rfl, rfl, rfl, rfl, rfl, rfl, rfl, rfl, rfl, fun _ => rfl, id, fun _ => .nil, id, Nat.le_refl _⟩

theorem carries_poke (s : State) (lin : Dword) (v : Byte) : Carries s (s.poke (s.phys lin) v) :=
  ⟨rfl, rfl, rfl, rfl, rfl, rfl, rfl, rfl, rfl, rfl, fun _ => rfl, fun h => Memory.wf_set h (s.phys_lt lin),
    fun h => setInsert_rising h _, id, Nat.le_refl _⟩

theorem carries_handOver (s : State) (a : Nat) (v : Byte) : Carries s (s.handOver a v) :=
  ⟨rfl, rfl, rfl, rfl, rfl, rfl, rfl, rfl, rfl, rfl, fun _ => rfl, id, fun h => setInsert_rising h _, id,
    Nat.le_refl _⟩

theorem carries_stick (s : State) : Carries s s.stick := carries_run _ _

theorem carries_jump (s : State) (target : Word) : Carries s (s.jump target) :=
  ((carries_setIp s target).trans (carries_setShadow _ _)).trans (carries_clean _)

theorem carries_enterHandler (s : State) (sp seg off : Word) : Carries s (s.enterHandler sp seg off) :=
  ((((((carries_setR16 s .sp sp).trans (carries_setFlag _ _ _)).trans (carries_setFlag _ _ _)).trans
    (carries_setFlag _ _ _)).trans (carries_loadSeg _ _ _)).trans (carries_jump _ _)).trans (carries_run _ _)

/-! ### Computations -/

/-- How a computation ended, whichever way, it carries from `s`. -/
def Stop.Carries (s : State) : Stop → Prop
  | .raise _ t => Sys2Proof.Machine.Carries s t
  | .stuck t => Sys2Proof.Machine.Carries s t
  | .fault _ => True
  | .refused _ => True

/-- Whether it answers, raises or sticks, a computation carries. -/
def Carrying {α : Type} (m : M α) : Prop :=
  ∀ s, match m s with
    | .ok (_, t) => Sys2Proof.Machine.Carries s t
    | .error e => e.Carries s

theorem carrying_pure {α : Type} (a : α) : Carrying (pure a : M α) := fun s => .rfl' s

theorem carrying_view {α : Type} (f : State → α) : Carrying (view f) := fun s => .rfl' s

theorem carrying_raise {α : Type} (e : Exc) : Carrying (raise e : M α) := fun s => .rfl' s

theorem carrying_stopFault {α : Type} (f : Fault) : Carrying (stopFault f : M α) := fun _ => trivial

theorem carrying_stopRefused {α : Type} (r : Refusal) : Carrying (stopRefused r : M α) := fun _ => trivial

theorem carrying_update {f : State → State} (hf : ∀ s, Carries s (f s)) : Carrying (update f) := fun s => hf s

theorem carrying_need (b : State → Bool) : Carrying (need b) := by
  intro s
  unfold need
  cases b s <;> exact Carries.rfl' s

theorem Stop.Carries.from {s t : State} {e : Stop} (h : e.Carries t) (k : Sys2Proof.Machine.Carries s t) : e.Carries s := by
  cases e with
  | raise e u => exact k.trans h
  | stuck u => exact k.trans h
  | fault f => trivial
  | refused r => trivial

theorem carrying_bind {α β : Type} {x : M α} {f : α → M β} (hx : Carrying x) (hf : ∀ a, Carrying (f a)) :
    Carrying (x >>= f) := by
  intro s
  have h1 := hx s
  rw [run_bind]
  cases h : x s with
  | error e => simpa only [h] using h1
  | ok p =>
    rw [h] at h1
    have h2 := hf p.1 p.2
    show match f p.1 p.2 with | .ok (_, t) => Carries s t | .error e => e.Carries s
    cases k : f p.1 p.2 with
    | error e => rw [k] at h2; exact h2.from h1
    | ok q => rw [k] at h2; exact h1.trans h2

theorem carrying_ite {α : Type} {c : Prop} [Decidable c] {x y : M α} (hx : Carrying x) (hy : Carrying y) :
    Carrying (if c then x else y) := by
  split
  · exact hx
  · exact hy

theorem carrying_drawBit : Carrying drawBit := fun s => carries_drew s 1

theorem carrying_drawWide : Carrying drawWide := fun s => carries_drew s 1

theorem carrying_takeAnswer : Carrying takeAnswer := by
  intro s
  rcases run_takeAnswer s with ⟨v, rest, _, h⟩ | ⟨_, h⟩ <;> rw [h]
  · exact ⟨rfl, rfl, rfl, rfl, rfl, rfl, rfl, rfl, rfl, rfl, fun _ => rfl, id, id, id, Nat.le_refl _⟩
  · exact carries_drew s 1

theorem carrying_checkLimit (r : Sreg) (off : Word) (n : Nat) : Carrying (checkLimit r off n) :=
  carrying_bind (carrying_view _) fun _ => carrying_ite (carrying_pure _) (carrying_raise _)

theorem carrying_checkTarget (t : Word) : Carrying (checkTarget t) :=
  carrying_bind (carrying_view _) fun _ => carrying_ite (carrying_pure _) (carrying_raise _)

theorem carrying_readHeld (a : Nat) : Carrying (readHeld a) :=
  carrying_bind (carrying_view _) fun o => by
    cases o with
    | none => exact carrying_stopFault _
    | some v => exact carrying_pure _

theorem carrying_readByte (lin : Dword) : Carrying (readByte lin) := by
  refine carrying_bind (carrying_need _) fun _ => carrying_bind (carrying_view _) fun a =>
    carrying_bind (carrying_view _) fun k => ?_
  cases k
  case volatile =>
    exact carrying_bind carrying_takeAnswer fun _ => carrying_bind (carrying_update fun s => carries_see s _)
      fun _ => carrying_pure _
  all_goals exact carrying_readHeld _

theorem carrying_writeByte (lin : Dword) (v : Byte) : Carrying (writeByte lin v) := by
  refine carrying_bind (carrying_need _) fun _ => ?_
  intro s
  simp only [run_view_bind]
  cases s.board.kindAt (s.phys lin)
  case ram => exact carries_poke s lin v
  all_goals exact carries_handOver s _ v

theorem carrying_readWord (lin : Dword) : Carrying (readWord lin) :=
  carrying_bind (carrying_need _) fun _ => carrying_bind (carrying_readByte _) fun _ =>
    carrying_bind (carrying_readByte _) fun _ => carrying_pure _

theorem carrying_writeWord (lin : Dword) (v : Word) : Carrying (writeWord lin v) :=
  carrying_bind (carrying_need _) fun _ => carrying_bind (carrying_writeByte _ _) fun _ => carrying_writeByte _ _

theorem carrying_ioRead (port : Word) (n : Nat) : Carrying (ioRead port n) :=
  carrying_bind (carrying_need _) fun _ => carrying_bind carrying_takeAnswer fun _ =>
    carrying_bind (carrying_update fun s => carries_see s _) fun _ => carrying_pure _

theorem carrying_ioWrite (port : Word) (n : Nat) (v : Word) : Carrying (ioWrite port n v) :=
  carrying_bind (carrying_need _) fun _ => carrying_update fun s => carries_see s _

theorem carrying_push16 (v : Word) : Carrying (push16 v) :=
  carrying_bind (carrying_view _) fun _ => carrying_bind (carrying_checkLimit _ _ _) fun _ =>
    carrying_bind (carrying_view _) fun _ => carrying_bind (carrying_writeWord _ _) fun _ =>
      carrying_update fun s => carries_setR16 s _ _

theorem carrying_peek16 : Carrying peek16 :=
  carrying_bind (carrying_view _) fun _ => carrying_bind (carrying_checkLimit _ _ _) fun _ =>
    carrying_bind (carrying_view _) fun _ => carrying_readWord _

theorem carrying_dropStack (k : Nat) : Carrying (dropStack k) := carrying_update fun s => carries_setR16 s _ _

theorem carrying_pop16 : Carrying pop16 :=
  carrying_bind carrying_peek16 fun _ => carrying_bind (carrying_dropStack _) fun _ => carrying_pure _

theorem carrying_trapEntry (n : Byte) (rip : Word) : Carrying (trapEntry n rip) := by
  refine carrying_bind (carrying_view _) fun idtr => carrying_ite (carrying_raise _) ?_
  refine carrying_bind (carrying_view _) fun _ => carrying_bind (carrying_view _) fun _ =>
    carrying_bind (carrying_view _) fun _ => ?_
  refine carrying_bind (carrying_checkLimit _ _ _) fun _ => carrying_bind (carrying_checkLimit _ _ _) fun _ =>
    carrying_bind (carrying_checkLimit _ _ _) fun _ => ?_
  refine carrying_bind (carrying_readWord _) fun _ => carrying_bind (carrying_readWord _) fun _ => ?_
  refine carrying_bind (carrying_view _) fun _ => carrying_bind (carrying_view _) fun _ =>
    carrying_bind (carrying_view _) fun _ => ?_
  exact carrying_bind (carrying_writeWord _ _) fun _ => carrying_bind (carrying_writeWord _ _) fun _ =>
    carrying_bind (carrying_writeWord _ _) fun _ => carrying_update fun s => carries_enterHandler s _ _ _

theorem carrying_trapReturn : Carrying trapReturn := by
  refine carrying_bind (carrying_view _) fun _ => carrying_bind (carrying_view _) fun _ =>
    carrying_bind (carrying_view _) fun _ => ?_
  refine carrying_bind (carrying_checkLimit _ _ _) fun _ => carrying_bind (carrying_checkLimit _ _ _) fun _ =>
    carrying_bind (carrying_checkLimit _ _ _) fun _ => carrying_bind (carrying_view _) fun _ => ?_
  refine carrying_bind (carrying_readWord _) fun _ => carrying_bind (carrying_readWord _) fun _ =>
    carrying_bind (carrying_readWord _) fun _ => carrying_bind (carrying_checkTarget _) fun _ => ?_
  refine carrying_bind (carrying_dropStack _) fun _ => carrying_bind (carrying_update fun s => carries_loadSeg s _ _)
    fun _ => carrying_bind (carrying_update fun s => ?_) fun _ => carrying_pure _
  exact ⟨rfl, rfl, rfl, rfl, rfl, rfl, rfl, rfl, rfl, rfl, fun _ => rfl, id, id, id, Nat.le_refl _⟩

/-! ### Operands and flags -/

theorem carrying_locatePlace (p : Place) : Carrying (locatePlace p) := by
  cases p with
  | reg r => exact carrying_pure _
  | mem sg off =>
    exact carrying_bind (carrying_checkLimit _ _ _) fun _ => carrying_bind (carrying_view _) fun _ => carrying_pure _

theorem carrying_locate (rm : Rm) : Carrying (locate rm) :=
  carrying_bind (carrying_view _) fun _ => carrying_locatePlace _

theorem carrying_readLoc (l : Loc) : Carrying (readLoc l) := by
  cases l with
  | reg r => exact carrying_view _
  | mem lin => exact carrying_readWord _

theorem carrying_writeLoc (l : Loc) (v : Word) : Carrying (writeLoc l v) := by
  cases l with
  | reg r => exact carrying_update fun s => carries_setR16 s _ _
  | mem lin => exact carrying_writeWord _ _

theorem carrying_readRm (rm : Rm) : Carrying (readRm rm) :=
  carrying_bind (carrying_locate _) fun _ => carrying_readLoc _

theorem carrying_writeRm (rm : Rm) (v : Word) : Carrying (writeRm rm v) :=
  carrying_bind (carrying_locate _) fun _ => carrying_writeLoc _ _

theorem carrying_setMulFlags (wide : Bool) : Carrying (setMulFlags wide) :=
  carrying_bind carrying_drawBit fun _ => carrying_bind carrying_drawBit fun _ => carrying_bind carrying_drawBit
    fun _ => carrying_bind carrying_drawBit fun _ => carrying_update fun s => carries_setArith s _

theorem carrying_setDivFlags : Carrying setDivFlags :=
  carrying_bind carrying_drawBit fun _ => carrying_bind carrying_drawBit fun _ => carrying_bind carrying_drawBit
    fun _ => carrying_bind carrying_drawBit fun _ => carrying_bind carrying_drawBit fun _ =>
      carrying_bind carrying_drawBit fun _ => carrying_update fun s => carries_setArith s _

theorem carrying_logic (f : Bool → Arith) : Carrying (do return f (← drawBit) : M Arith) :=
  carrying_bind carrying_drawBit fun _ => carrying_pure _

theorem carrying_carry (f : Bool → Arith) : Carrying (do return f (← view fun s => s.flag .cf) : M Arith) :=
  carrying_bind (carrying_view _) fun _ => carrying_pure _

theorem carrying_opShl (a : Word) (n : Nat) : Carrying (opShl a n) :=
  carrying_bind carrying_drawBit fun _ => carrying_bind carrying_drawBit fun _ => carrying_bind carrying_drawBit
    fun _ => carrying_pure _

theorem carrying_opShr (a : Word) (n : Nat) : Carrying (opShr a n) :=
  carrying_bind carrying_drawBit fun _ => carrying_bind carrying_drawBit fun _ => carrying_bind carrying_drawBit
    fun _ => carrying_pure _

theorem carrying_opSar (a : Word) (n : Nat) : Carrying (opSar a n) :=
  carrying_bind carrying_drawBit fun _ => carrying_bind carrying_drawBit fun _ => carrying_pure _

theorem carrying_putQuotient (qr : Option (Word × Word)) : Carrying (putQuotient qr) := by
  cases qr with
  | none => exact carrying_raise _
  | some p =>
    exact carrying_bind (carrying_update fun s => (carries_setR16 s _ _).trans (carries_setR16 _ _ _))
      fun _ => carrying_setDivFlags

theorem carrying_shadowOfLoad (r : Sreg) : Carrying (shadowOfLoad r) :=
  carrying_ite (carrying_bind (carrying_view _) fun _ => carrying_ite (carrying_pure _)
    (carrying_bind carrying_drawBit fun _ => carrying_ite (carrying_pure _) (carrying_pure _))) (carrying_pure _)

theorem carrying_relJump (i : Instr) (disp : Word) : Carrying (relJump i disp) :=
  carrying_bind (carrying_view _) fun _ => carrying_bind (carrying_checkTarget _) fun _ => carrying_pure _

theorem carrying_savedIp (i : Instr) : Carrying (savedIp i) :=
  carrying_bind (carrying_view _) fun _ => carrying_ite (carrying_stopFault _) (carrying_view _)

/-! ### Ends of an instruction -/

/-- A step part that reaches a next state carries. -/
def Leads (s : State) (o : Host.Outcome State Fault Refusal) : Prop := ∀ t, o = .next t → Carries s t

theorem leads_complete {s t : State} (h : Carries s t) : Leads s (complete t) := by
  intro u hu
  unfold complete at hu
  split at hu
  · cases hu
  · cases hu; exact h

theorem Leads.from {s t : State} {o : Host.Outcome State Fault Refusal} (h : Leads t o) (k : Carries s t) : Leads s o :=
  fun u hu => k.trans (h u hu)

theorem leads_next {s t : State} (h : Carries s t) : Leads s (.next t) := fun u hu => by cases hu; exact h

/-- A step part that concludes a carrying computation carries, if what follows it does. -/
theorem leads_conclude {α : Type} {m : M α} (hm : Carrying m) (s : State)
    {ok : α → State → Host.Outcome State Fault Refusal} {raised : Exc → State → Host.Outcome State Fault Refusal}
    (hok : ∀ a t, Carries s t → Leads s (ok a t)) (hr : ∀ e t, Carries s t → Leads s (raised e t)) :
    Leads s (conclude (m s) ok raised) := by
  have h := hm s
  cases k : m s with
  | ok p => rw [k] at h; exact hok p.1 p.2 h
  | error e =>
    rw [k] at h
    cases e with
    | raise e t => exact hr e t h
    | stuck t => exact leads_next (h.trans (carries_stick t))
    | fault f => intro t ht; cases ht
    | refused r => intro t ht; cases ht

theorem leads_deliver (n : Byte) (c : Bool) (rip : Word) (s : State) : Leads s (deliver n c rip s) :=
  leads_conclude (carrying_trapEntry n rip) s (fun _ _ h => leads_next h) fun _ t h =>
    (leads_conclude (carrying_trapEntry _ rip) t (fun _ _ k => leads_next k) fun _ u k =>
      leads_next (k.trans ((carries_see u _).trans (carries_run _ _)))).from h

theorem leads_straightShadow {i : Instr} {body : M Shadow} (hb : Carrying body) (s : State) :
    Leads s (straightShadow i body s) := by
  unfold straightShadow
  split
  · intro t ht; cases ht
  · exact leads_conclude hb s
      (fun _ _ h => leads_complete (h.trans ((carries_setIp _ _).trans (carries_setShadow _ _))))
      fun _ t h => (leads_deliver _ _ _ t).from h

theorem leads_straight {i : Instr} {body : M Unit} (hb : Carrying body) (s : State) : Leads s (straight i body s) :=
  leads_straightShadow (carrying_bind hb fun _ => carrying_pure _) s

theorem leads_transfer {i : Instr} {body : M Flow} (hb : Carrying body) (s : State) : Leads s (transfer i body s) := by
  refine leads_conclude hb s (fun f t h => ?_) fun _ t h => (leads_deliver _ _ _ t).from h
  cases f with
  | next =>
    simp only [follow]
    split
    · intro u hu; cases hu
    · exact leads_complete (h.trans ((carries_setIp _ _).trans (carries_setShadow _ _)))
  | goto target => exact leads_complete (h.trans (carries_jump _ _))

end Sys2Proof.Machine
end

