-- ==== Sys2Proof/Laws/Decode.lean ====
section
/-! SUPPORT. More bytes after an instruction or a refusal change nothing but what is left (R108). -/

namespace Sys2Proof

set_option Elab.async false

/-- More bytes after an answer change nothing but what is left. -/
def Grows (k : List Byte → Decoded) : Prop :=
  ∀ bs more, match k bs with
    | .instr i rest => k (bs ++ more) = .instr i (rest ++ more)
    | .refused n => k (bs ++ more) = .refused n
    | .more => True


theorem grows_instr (i : Instr) : Grows (fun bs => .instr i bs) := fun _ _ => rfl

theorem grows_refused (n : RefusedEncoding) : Grows (fun _ => .refused n) := fun _ _ => rfl

theorem grows_takeByte {k : Byte → List Byte → Decoded} (h : ∀ b, Grows (k b)) : Grows (fun bs => takeByte bs k) := by
  intro bs more
  cases bs with
  | nil => trivial
  | cons b t => exact h b t more

theorem grows_takeWord {k : Word → List Byte → Decoded} (h : ∀ w, Grows (k w)) : Grows (fun bs => takeWord bs k) := by
  intro bs more
  match bs with
  | [] => trivial
  | [_] => trivial
  | lo :: hi :: t => exact h _ t more

/-- The same of what the `reg` field of ModRM selects. -/
def RegArm.Grows : RegArm → Prop
  | .refuse _ => True
  | .take k => ∀ rm, Sys2Proof.Grows (k rm)

theorem grows_takeModRm {arm : Nat → RegArm} (h : ∀ g, (arm g).Grows) : Grows (fun bs => takeModRm bs arm) := by
  refine grows_takeByte fun m => ?_
  have := h (m.extractLsb' 3 3).toNat
  revert this
  cases arm (m.extractLsb' 3 3).toNat with
  | refuse n => intro _; exact grows_refused n
  | take k =>
    intro hk
    simp only
    split
    · split
      · exact grows_takeWord fun _ => hk _
      · exact hk _
    · exact grows_takeByte fun _ => hk _
    · exact grows_takeWord fun _ => hk _
    · exact hk _

theorem grows_armM (f : Rm → Instr) : (armM f).Grows := fun _ => grows_instr _

theorem grows_armMI8 (f : Rm → Byte → Instr) : (armMI8 f).Grows := fun _ => grows_takeByte fun _ => grows_instr _

theorem grows_armMI16 (f : Rm → Word → Instr) : (armMI16 f).Grows := fun _ => grows_takeWord fun _ => grows_instr _

theorem grows_formM (f : Rm → Reg → Instr) : Grows (fun bs => formM bs f) := grows_takeModRm fun _ _ => grows_instr _

theorem grows_formSreg (f : Rm → SregField → Instr) : Grows (fun bs => formSreg bs f) := grows_takeModRm fun _ _ => grows_instr _

theorem grows_formI8 (f : Byte → Instr) : Grows (fun bs => formI8 bs f) := grows_takeByte fun _ => grows_instr _

theorem grows_formI16 (f : Word → Instr) : Grows (fun bs => formI16 bs f) := grows_takeWord fun _ => grows_instr _

theorem grows_group81 (g : Nat) : (group81 g).Grows := by
  unfold group81; split <;> exact grows_armMI16 _

theorem grows_group83 (g : Nat) : (group83 g).Grows := by
  unfold group83; split <;> exact grows_armMI8 _

theorem grows_groupC1 (g : Nat) : (groupC1 g).Grows := by
  unfold groupC1; split <;> first | exact grows_armMI8 _ | trivial

theorem grows_groupD1 (g : Nat) : (groupD1 g).Grows := by
  unfold groupD1; split <;> first | exact grows_armM _ | trivial

theorem grows_groupD3 (g : Nat) : (groupD3 g).Grows := by
  unfold groupD3; split <;> first | exact grows_armM _ | trivial

theorem grows_groupC7 (g : Nat) : (groupC7 g).Grows := by
  unfold groupC7; split <;> first | exact grows_armMI16 _ | trivial

theorem grows_groupF7 (g : Nat) : (groupF7 g).Grows := by
  unfold groupF7; split <;> first | exact grows_armM _ | exact grows_armMI16 _ | trivial

theorem grows_decodeOpcode (b : Byte) : Grows (decodeOpcode b) := by
  show Grows (fun bs => decodeOpcode b bs)
  unfold decodeOpcode
  split <;> first
    | exact grows_formM _ | exact grows_formI16 _ | exact grows_formI8 _ | exact grows_instr _ | exact grows_formSreg _
    | exact grows_takeModRm grows_group81
    | exact grows_takeModRm grows_group83
    | exact grows_takeModRm grows_groupC1
    | exact grows_takeModRm grows_groupD1
    | exact grows_takeModRm grows_groupD3
    | exact grows_takeModRm grows_groupC7
    | exact grows_takeModRm grows_groupF7
    | exact grows_refused _
    | exact grows_takeWord fun _ => grows_takeWord fun _ => grows_instr _
    | (refine grows_takeByte fun _ => ?_; split; exact grows_instr _; exact grows_refused _)
/-- Bytes that decode to an instruction still do with more behind them. -/
theorem decodeBytes_append {bs rest : List Byte} {i : Instr} (h : decodeBytes bs = .instr i rest)
    (more : List Byte) : decodeBytes (bs ++ more) = .instr i (rest ++ more) := by
  cases bs with
  | nil => cases h
  | cons b t =>
    have := grows_decodeOpcode b t more
    simp only [decodeBytes] at h
    rw [h] at this
    exact this

/-- Bytes that are refused still are with more behind them. -/
theorem decodeBytes_append_refused {bs : List Byte} {n : RefusedEncoding} (h : decodeBytes bs = .refused n)
    (more : List Byte) : decodeBytes (bs ++ more) = .refused n := by
  cases bs with
  | nil => cases h
  | cons b t =>
    have := grows_decodeOpcode b t more
    simp only [decodeBytes] at h
    rw [h] at this
    exact this

/-- A proper prefix of the bytes of one instruction asks for more. -/
theorem decodeBytes_more {bs more : List Byte} {i : Instr} (h : decodeBytes (bs ++ more) = .instr i [])
    (hm : more ≠ []) : decodeBytes bs = .more := by
  cases hd : decodeBytes bs with
  | instr j rest =>
    rw [decodeBytes_append hd more] at h
    simp only [Decoded.instr.injEq, List.append_eq_nil_iff] at h
    exact absurd h.2.2 hm
  | refused n => rw [decodeBytes_append_refused hd more] at h; cases h
  | more => rfl

end Sys2Proof
end

