-- ==== Sys2Proof/Laws/PerInstr.lean ====
section
/-! SUPPORT. A law of every instruction as syntax, one lemma for each constructor: its length. -/

namespace Sys2Proof.Laws.LengthBound

/-- An instruction has one to six bytes, or is a code of the TAP and has none (R100, R105). -/
def Statement (i : Instr) : Prop :=
  i.length ≤ 6 ∧ (i.length = 0 ↔ ∀ p, ∃ c, encode p i = .irCode c)

/-- An r/m operand takes one to three bytes (R107). -/
theorem encodeRm_length (g : BitVec 3) (rm : Rm) : 1 ≤ (encodeRm g rm).length ∧ (encodeRm g rm).length ≤ 3 := by
  cases rm with
  | reg r => simp [encodeRm]
  | direct d => simp [encodeRm]
  | based b d => cases d <;> simp [encodeRm]

theorem of_code {i : Instr} (h : ∀ p, ∃ c, encode p i = .irCode c) : Statement i := by
  obtain ⟨c, hc⟩ := h .expected
  exact ⟨by simp [Instr.length, Instr.bytes, hc], by simpa [Instr.length, Instr.bytes, hc] using h⟩

theorem of_bytes {i : Instr} {b : Byte} {bs : List Byte} (h : encode .expected i = .bytes (b :: bs))
    (h5 : bs.length ≤ 5) : Statement i := by
  refine ⟨by simp [Instr.length, Instr.bytes, h]; omega, ?_⟩
  simp only [Instr.length, Instr.bytes, h, List.length_cons, Nat.add_eq_zero_iff, one_ne_zero, and_false, false_iff]
  intro k
  obtain ⟨c, hc⟩ := k .expected
  cases h.symm.trans hc

theorem of_rm {i : Instr} {b : Byte} {g : BitVec 3} {rm : Rm} (h : encode .expected i = .bytes (b :: encodeRm g rm)) :
    Statement i := of_bytes h (by have := encodeRm_length g rm; omega)

theorem of_rm_imm {i : Instr} {b : Byte} {g : BitVec 3} {rm : Rm} {imm : List Byte}
    (h : encode .expected i = .bytes (b :: encodeRm g rm ++ imm)) (h2 : imm.length ≤ 2) : Statement i :=
  of_bytes (bs := encodeRm g rm ++ imm) h (by
    have := encodeRm_length g rm
    rw [List.length_append]; omega)

theorem extest : Statement .extest := of_code fun _ => ⟨_, rfl⟩
theorem samplePreload : Statement .samplePreload := of_code fun _ => ⟨_, rfl⟩
theorem idcode : Statement .idcode := of_code fun _ => ⟨_, rfl⟩
theorem highz : Statement .highz := of_code fun _ => ⟨_, rfl⟩
theorem bypass : Statement .bypass := of_code fun _ => ⟨_, rfl⟩
theorem addRmR (rm : Rm) (r : Reg) : Statement (.addRmR rm r) := of_rm rfl
theorem addRRm (r : Reg) (rm : Rm) : Statement (.addRRm r rm) := of_rm rfl
theorem addAxImm (imm : Word) : Statement (.addAxImm imm) := of_bytes rfl (Nat.le_of_ble_eq_true rfl)
theorem orRmR (rm : Rm) (r : Reg) : Statement (.orRmR rm r) := of_rm rfl
theorem orRRm (r : Reg) (rm : Rm) : Statement (.orRRm r rm) := of_rm rfl
theorem orAxImm (imm : Word) : Statement (.orAxImm imm) := of_bytes rfl (Nat.le_of_ble_eq_true rfl)
theorem adcRmR (rm : Rm) (r : Reg) : Statement (.adcRmR rm r) := of_rm rfl
theorem adcRRm (r : Reg) (rm : Rm) : Statement (.adcRRm r rm) := of_rm rfl
theorem adcAxImm (imm : Word) : Statement (.adcAxImm imm) := of_bytes rfl (Nat.le_of_ble_eq_true rfl)
theorem sbbRmR (rm : Rm) (r : Reg) : Statement (.sbbRmR rm r) := of_rm rfl
theorem sbbRRm (r : Reg) (rm : Rm) : Statement (.sbbRRm r rm) := of_rm rfl
theorem sbbAxImm (imm : Word) : Statement (.sbbAxImm imm) := of_bytes rfl (Nat.le_of_ble_eq_true rfl)
theorem andRmR (rm : Rm) (r : Reg) : Statement (.andRmR rm r) := of_rm rfl
theorem andRRm (r : Reg) (rm : Rm) : Statement (.andRRm r rm) := of_rm rfl
theorem andAxImm (imm : Word) : Statement (.andAxImm imm) := of_bytes rfl (Nat.le_of_ble_eq_true rfl)
theorem subRmR (rm : Rm) (r : Reg) : Statement (.subRmR rm r) := of_rm rfl
theorem subRRm (r : Reg) (rm : Rm) : Statement (.subRRm r rm) := of_rm rfl
theorem subAxImm (imm : Word) : Statement (.subAxImm imm) := of_bytes rfl (Nat.le_of_ble_eq_true rfl)
theorem xorRmR (rm : Rm) (r : Reg) : Statement (.xorRmR rm r) := of_rm rfl
theorem xorRRm (r : Reg) (rm : Rm) : Statement (.xorRRm r rm) := of_rm rfl
theorem xorAxImm (imm : Word) : Statement (.xorAxImm imm) := of_bytes rfl (Nat.le_of_ble_eq_true rfl)
theorem cmpRmR (rm : Rm) (r : Reg) : Statement (.cmpRmR rm r) := of_rm rfl
theorem cmpRRm (r : Reg) (rm : Rm) : Statement (.cmpRRm r rm) := of_rm rfl
theorem cmpAxImm (imm : Word) : Statement (.cmpAxImm imm) := of_bytes rfl (Nat.le_of_ble_eq_true rfl)
theorem addRmImm16 (rm : Rm) (imm : Word) : Statement (.addRmImm16 rm imm) := of_rm_imm rfl (Nat.le_of_ble_eq_true rfl)
theorem addRmImm8 (rm : Rm) (imm : Byte) : Statement (.addRmImm8 rm imm) := of_rm_imm rfl (Nat.le_of_ble_eq_true rfl)
theorem orRmImm16 (rm : Rm) (imm : Word) : Statement (.orRmImm16 rm imm) := of_rm_imm rfl (Nat.le_of_ble_eq_true rfl)
theorem orRmImm8 (rm : Rm) (imm : Byte) : Statement (.orRmImm8 rm imm) := of_rm_imm rfl (Nat.le_of_ble_eq_true rfl)
theorem adcRmImm16 (rm : Rm) (imm : Word) : Statement (.adcRmImm16 rm imm) := of_rm_imm rfl (Nat.le_of_ble_eq_true rfl)
theorem adcRmImm8 (rm : Rm) (imm : Byte) : Statement (.adcRmImm8 rm imm) := of_rm_imm rfl (Nat.le_of_ble_eq_true rfl)
theorem sbbRmImm16 (rm : Rm) (imm : Word) : Statement (.sbbRmImm16 rm imm) := of_rm_imm rfl (Nat.le_of_ble_eq_true rfl)
theorem sbbRmImm8 (rm : Rm) (imm : Byte) : Statement (.sbbRmImm8 rm imm) := of_rm_imm rfl (Nat.le_of_ble_eq_true rfl)
theorem andRmImm16 (rm : Rm) (imm : Word) : Statement (.andRmImm16 rm imm) := of_rm_imm rfl (Nat.le_of_ble_eq_true rfl)
theorem andRmImm8 (rm : Rm) (imm : Byte) : Statement (.andRmImm8 rm imm) := of_rm_imm rfl (Nat.le_of_ble_eq_true rfl)
theorem subRmImm16 (rm : Rm) (imm : Word) : Statement (.subRmImm16 rm imm) := of_rm_imm rfl (Nat.le_of_ble_eq_true rfl)
theorem subRmImm8 (rm : Rm) (imm : Byte) : Statement (.subRmImm8 rm imm) := of_rm_imm rfl (Nat.le_of_ble_eq_true rfl)
theorem xorRmImm16 (rm : Rm) (imm : Word) : Statement (.xorRmImm16 rm imm) := of_rm_imm rfl (Nat.le_of_ble_eq_true rfl)
theorem xorRmImm8 (rm : Rm) (imm : Byte) : Statement (.xorRmImm8 rm imm) := of_rm_imm rfl (Nat.le_of_ble_eq_true rfl)
theorem cmpRmImm16 (rm : Rm) (imm : Word) : Statement (.cmpRmImm16 rm imm) := of_rm_imm rfl (Nat.le_of_ble_eq_true rfl)
theorem cmpRmImm8 (rm : Rm) (imm : Byte) : Statement (.cmpRmImm8 rm imm) := of_rm_imm rfl (Nat.le_of_ble_eq_true rfl)
theorem testRmR (rm : Rm) (r : Reg) : Statement (.testRmR rm r) := of_rm rfl
theorem testRmImm16 (rm : Rm) (imm : Word) : Statement (.testRmImm16 rm imm) := of_rm_imm rfl (Nat.le_of_ble_eq_true rfl)
theorem incR (r : Reg) : Statement (.incR r) := of_bytes rfl (Nat.le_of_ble_eq_true rfl)
theorem decR (r : Reg) : Statement (.decR r) := of_bytes rfl (Nat.le_of_ble_eq_true rfl)
theorem pushR (r : Reg) : Statement (.pushR r) := of_bytes rfl (Nat.le_of_ble_eq_true rfl)
theorem popR (r : Reg) : Statement (.popR r) := of_bytes rfl (Nat.le_of_ble_eq_true rfl)
theorem jo (rel : Byte) : Statement (.jo rel) := of_bytes rfl (Nat.le_of_ble_eq_true rfl)
theorem jno (rel : Byte) : Statement (.jno rel) := of_bytes rfl (Nat.le_of_ble_eq_true rfl)
theorem jb (rel : Byte) : Statement (.jb rel) := of_bytes rfl (Nat.le_of_ble_eq_true rfl)
theorem jae (rel : Byte) : Statement (.jae rel) := of_bytes rfl (Nat.le_of_ble_eq_true rfl)
theorem je (rel : Byte) : Statement (.je rel) := of_bytes rfl (Nat.le_of_ble_eq_true rfl)
theorem jne (rel : Byte) : Statement (.jne rel) := of_bytes rfl (Nat.le_of_ble_eq_true rfl)
theorem jbe (rel : Byte) : Statement (.jbe rel) := of_bytes rfl (Nat.le_of_ble_eq_true rfl)
theorem ja (rel : Byte) : Statement (.ja rel) := of_bytes rfl (Nat.le_of_ble_eq_true rfl)
theorem js (rel : Byte) : Statement (.js rel) := of_bytes rfl (Nat.le_of_ble_eq_true rfl)
theorem jns (rel : Byte) : Statement (.jns rel) := of_bytes rfl (Nat.le_of_ble_eq_true rfl)
theorem jp (rel : Byte) : Statement (.jp rel) := of_bytes rfl (Nat.le_of_ble_eq_true rfl)
theorem jnp (rel : Byte) : Statement (.jnp rel) := of_bytes rfl (Nat.le_of_ble_eq_true rfl)
theorem jl (rel : Byte) : Statement (.jl rel) := of_bytes rfl (Nat.le_of_ble_eq_true rfl)
theorem jge (rel : Byte) : Statement (.jge rel) := of_bytes rfl (Nat.le_of_ble_eq_true rfl)
theorem jle (rel : Byte) : Statement (.jle rel) := of_bytes rfl (Nat.le_of_ble_eq_true rfl)
theorem jg (rel : Byte) : Statement (.jg rel) := of_bytes rfl (Nat.le_of_ble_eq_true rfl)
theorem movRmR (rm : Rm) (r : Reg) : Statement (.movRmR rm r) := of_rm rfl
theorem movRRm (r : Reg) (rm : Rm) : Statement (.movRRm r rm) := of_rm rfl
theorem movRmSreg (rm : Rm) (sr : SregField) : Statement (.movRmSreg rm sr) := of_rm rfl
theorem movSregRm (sr : SregField) (rm : Rm) : Statement (.movSregRm sr rm) := of_rm rfl
theorem nop : Statement .nop := of_bytes rfl (Nat.le_of_ble_eq_true rfl)
theorem movAxMoffs (moffs : Word) : Statement (.movAxMoffs moffs) := of_bytes rfl (Nat.le_of_ble_eq_true rfl)
theorem movMoffsAx (moffs : Word) : Statement (.movMoffsAx moffs) := of_bytes rfl (Nat.le_of_ble_eq_true rfl)
theorem movR8Imm8 (r : Reg8) (imm : Byte) : Statement (.movR8Imm8 r imm) := of_bytes rfl (Nat.le_of_ble_eq_true rfl)
theorem movRImm16 (r : Reg) (imm : Word) : Statement (.movRImm16 r imm) := of_bytes rfl (Nat.le_of_ble_eq_true rfl)
theorem shlRmImm8 (rm : Rm) (imm : Byte) : Statement (.shlRmImm8 rm imm) := of_rm_imm rfl (Nat.le_of_ble_eq_true rfl)
theorem shrRmImm8 (rm : Rm) (imm : Byte) : Statement (.shrRmImm8 rm imm) := of_rm_imm rfl (Nat.le_of_ble_eq_true rfl)
theorem sarRmImm8 (rm : Rm) (imm : Byte) : Statement (.sarRmImm8 rm imm) := of_rm_imm rfl (Nat.le_of_ble_eq_true rfl)
theorem ret : Statement .ret := of_bytes rfl (Nat.le_of_ble_eq_true rfl)
theorem movRmImm16 (rm : Rm) (imm : Word) : Statement (.movRmImm16 rm imm) := of_rm_imm rfl (Nat.le_of_ble_eq_true rfl)
theorem int3 : Statement .int3 := of_bytes rfl (Nat.le_of_ble_eq_true rfl)
theorem intImm8 (n : Byte) : Statement (.intImm8 n) := of_bytes rfl (Nat.le_of_ble_eq_true rfl)
theorem iret : Statement .iret := of_bytes rfl (Nat.le_of_ble_eq_true rfl)
theorem shlRm1 (rm : Rm) : Statement (.shlRm1 rm) := of_rm rfl
theorem shrRm1 (rm : Rm) : Statement (.shrRm1 rm) := of_rm rfl
theorem sarRm1 (rm : Rm) : Statement (.sarRm1 rm) := of_rm rfl
theorem shlRmCl (rm : Rm) : Statement (.shlRmCl rm) := of_rm rfl
theorem shrRmCl (rm : Rm) : Statement (.shrRmCl rm) := of_rm rfl
theorem sarRmCl (rm : Rm) : Statement (.sarRmCl rm) := of_rm rfl
theorem loop (rel : Byte) : Statement (.loop rel) := of_bytes rfl (Nat.le_of_ble_eq_true rfl)
theorem inAlImm8 (port : Byte) : Statement (.inAlImm8 port) := of_bytes rfl (Nat.le_of_ble_eq_true rfl)
theorem outImm8Al (port : Byte) : Statement (.outImm8Al port) := of_bytes rfl (Nat.le_of_ble_eq_true rfl)
theorem callRel16 (rel : Word) : Statement (.callRel16 rel) := of_bytes rfl (Nat.le_of_ble_eq_true rfl)
theorem jmpRel16 (rel : Word) : Statement (.jmpRel16 rel) := of_bytes rfl (Nat.le_of_ble_eq_true rfl)
theorem jmpFar (seg : Word) (off : Word) : Statement (.jmpFar seg off) := of_bytes rfl (Nat.le_of_ble_eq_true rfl)
theorem jmpRel8 (rel : Byte) : Statement (.jmpRel8 rel) := of_bytes rfl (Nat.le_of_ble_eq_true rfl)
theorem inAlDx : Statement .inAlDx := of_bytes rfl (Nat.le_of_ble_eq_true rfl)
theorem inAxDx : Statement .inAxDx := of_bytes rfl (Nat.le_of_ble_eq_true rfl)
theorem outDxAl : Statement .outDxAl := of_bytes rfl (Nat.le_of_ble_eq_true rfl)
theorem outDxAx : Statement .outDxAx := of_bytes rfl (Nat.le_of_ble_eq_true rfl)
theorem hlt : Statement .hlt := of_bytes rfl (Nat.le_of_ble_eq_true rfl)
theorem cmc : Statement .cmc := of_bytes rfl (Nat.le_of_ble_eq_true rfl)
theorem notRm (rm : Rm) : Statement (.notRm rm) := of_rm rfl
theorem negRm (rm : Rm) : Statement (.negRm rm) := of_rm rfl
theorem mulRm (rm : Rm) : Statement (.mulRm rm) := of_rm rfl
theorem imulRm (rm : Rm) : Statement (.imulRm rm) := of_rm rfl
theorem divRm (rm : Rm) : Statement (.divRm rm) := of_rm rfl
theorem idivRm (rm : Rm) : Statement (.idivRm rm) := of_rm rfl
theorem clc : Statement .clc := of_bytes rfl (Nat.le_of_ble_eq_true rfl)
theorem stc : Statement .stc := of_bytes rfl (Nat.le_of_ble_eq_true rfl)
theorem cli : Statement .cli := of_bytes rfl (Nat.le_of_ble_eq_true rfl)
theorem sti : Statement .sti := of_bytes rfl (Nat.le_of_ble_eq_true rfl)
theorem cld : Statement .cld := of_bytes rfl (Nat.le_of_ble_eq_true rfl)
theorem std : Statement .std := of_bytes rfl (Nat.le_of_ble_eq_true rfl)
theorem rdtsc : Statement .rdtsc := of_bytes rfl (Nat.le_of_ble_eq_true rfl)

end Sys2Proof.Laws.LengthBound
end

