-- ==== Sys2Proof/Laws/Tap.lean ====
section
/-! SUPPORT. What one TCK period does to the test logic, once for every claim about scans (R212 to R223). -/

namespace Sys2Proof.Machine

/-! ### The pins a period sets -/

@[simp] theorem State.setTestPins_tap (s : State) (a b : Bool) : (s.setTestPins a b).tap = s.tap := rfl
@[simp] theorem State.setTestPins_board (s : State) (a b : Bool) : (s.setTestPins a b).board = s.board := rfl
@[simp] theorem State.setTestPins_draws (s : State) (a b : Bool) : (s.setTestPins a b).draws = s.draws := rfl
@[simp] theorem State.setTestPins_sel (s : State) (a b : Bool) : (s.setTestPins a b).sel = s.sel := rfl
@[simp] theorem State.setTestPins_tapHeld (s : State) (a b : Bool) : (s.setTestPins a b).tapHeld = s.tapHeld := rfl
@[simp] theorem State.setTestPins_pinLevel (s : State) (a b : Bool) (p : PinBit) :
    (s.setTestPins a b).pinLevel p = s.pinLevel p := by
  cases p <;> rfl
@[simp] theorem State.setTestPins_cellCapture (s : State) (a b : Bool) (changing : List PinBit) :
    (s.setTestPins a b).cellCapture changing = s.cellCapture changing := by
  funext c
  cases c with
  | control gov on => rfl
  | data p => cases p <;> rfl

/-! ### The rising edge -/

/-- The rising edge changes only the controller state, the shift stages and the free values taken. -/
theorem State.tapRise_frame (s : State) (tms tdi : Bool) (changing : List PinBit) :
    ∃ a b c d n, s.tapRise tms tdi changing = { s with
      tap := { s.tap with ctl := s.tap.ctl.after tms, irShift := a, bsrShift := b, dir := c, br := d }, draws := n } := by
  unfold State.tapRise State.captureDr State.shiftDr
  split
  · exact ⟨_, _, _, _, _, rfl⟩
  · exact ⟨_, _, _, _, _, rfl⟩
  · split <;> exact ⟨_, _, _, _, _, rfl⟩
  · split <;> exact ⟨_, _, _, _, _, rfl⟩
  · exact ⟨_, _, _, _, _, rfl⟩

/-- IR.shift after the rising edge (R212, R213). -/
theorem State.tapRise_irShift (s : State) (tms tdi : Bool) (changing : List PinBit) :
    (s.tapRise tms tdi changing).tap.irShift =
      match s.tap.ctl with
      | .captureIr => s.board.ir.capture
      | .shiftIr => shiftBits s.tap.irShift tdi
      | _ => s.tap.irShift := by
  unfold State.tapRise State.captureDr State.shiftDr
  cases s.tap.ctl <;> first | rfl | (dsimp only; split <;> rfl)

/-- BSR.shift after the rising edge (R217, R218). -/
theorem State.tapRise_bsrShift (s : State) (tms tdi : Bool) (changing : List PinBit) :
    (s.tapRise tms tdi changing).tap.bsrShift =
      match s.tap.ctl, s.sel with
      | .captureDr, .bsr => captureCells (s.board.bsrMap.map (s.cellCapture changing)) s.draws
      | .shiftDr, .bsr => shiftBits s.tap.bsrShift tdi
      | _, _ => s.tap.bsrShift := by
  unfold State.tapRise State.captureDr State.shiftDr
  cases s.tap.ctl <;> cases s.sel <;> rfl

/-- DIR after the rising edge (R217, R218). -/
theorem State.tapRise_dir (s : State) (tms tdi : Bool) (changing : List PinBit) :
    (s.tapRise tms tdi changing).tap.dir =
      match s.tap.ctl, s.sel with
      | .captureDr, .dir => s.board.dirValue
      | .shiftDr, .dir => shiftVec s.tap.dir tdi
      | _, _ => s.tap.dir := by
  unfold State.tapRise State.captureDr State.shiftDr
  cases s.tap.ctl <;> cases s.sel <;> rfl

/-- The bypass register after the rising edge (R217, R218). -/
theorem State.tapRise_br (s : State) (tms tdi : Bool) (changing : List PinBit) :
    (s.tapRise tms tdi changing).tap.br =
      match s.tap.ctl, s.sel with
      | .captureDr, .br => false
      | .shiftDr, .br => tdi
      | _, _ => s.tap.br := by
  unfold State.tapRise State.captureDr State.shiftDr
  cases s.tap.ctl <;> cases s.sel <;> rfl

/-- A captured boundary-scan chain is as long as the map. -/
@[simp] theorem captureCells_length (cells : List (Option Bool)) (n : Nat) :
    (captureCells cells n).length = cells.length := by
  induction cells generalizing n with
  | nil => rfl
  | cons c rest ih => simp [captureCells, ih]

/-- Cell `k` of a captured chain holds its pin's level, or its own free value. -/
theorem captureCells_getElem? (cells : List (Option Bool)) (n k : Nat) :
    (captureCells cells n)[k]? = (cells[k]?).map fun c => c.getD (drawBitAt (n + k)) := by
  induction cells generalizing n k with
  | nil => simp [captureCells]
  | cons c rest ih =>
    cases k with
    | zero => simp [captureCells]
    | succ k => simp [captureCells, ih, Nat.add_comm, Nat.add_left_comm]

/-! ### The falling edge -/

/-- A decoded code comes into force as it stands in IR.shift, and nothing else of the machine changes but the
mark that the core needs a RESET. -/
theorem exec_decodeIr {s : State} {i : Instr} (h : decodeIr s.board.ir s.tap.irShift = some i) :
    ∃ b, exec i s = .next { s with tap := { s.tap with irOut := s.tap.irShift, coreNeedsReset := b } } ∧
      (s.tap.coreNeedsReset = true → b = true) ∧
      (s.board.ir.wf = true → s.tap.irShift = s.board.ir.extest ∨ s.tap.irShift = s.board.ir.highz → b = true) := by
  have distinct : s.board.ir.wf = true → s.board.ir.all.Nodup := by
    intro h
    simp only [TapCodes.wf, Bool.and_eq_true, decide_eq_true_eq] at h
    exact h.1.1.2
  simp only [TapCodes.all, List.nodup_cons, List.mem_cons, not_or, List.not_mem_nil] at distinct
  have other : ∀ c, c ≠ s.board.ir.extest → c ≠ s.board.ir.highz → s.tap.irShift = c →
      s.tap.irShift = s.board.ir.extest ∨ s.tap.irShift = s.board.ir.highz → s.tap.coreNeedsReset = true := by
    rintro c h1 h2 h3 (h4 | h4)
    · exact absurd (h3.symm.trans h4) h1
    · exact absurd (h3.symm.trans h4) h2
  unfold decodeIr at h
  split at h
  · next e => cases h; exact ⟨true, by rw [e]; rfl, fun _ => rfl, fun _ _ => rfl⟩
  split at h
  · next e =>
    cases h
    refine ⟨s.tap.coreNeedsReset, by rw [e]; rfl, id, fun hw => other _ ?_ ?_ e⟩
    · exact fun x => (distinct hw).1.1 x.symm
    · exact (distinct hw).2.1.2.1
  split at h
  · next e =>
    cases h
    refine ⟨s.tap.coreNeedsReset, by rw [e]; rfl, id, fun hw => other _ ?_ ?_ e⟩
    · exact fun x => (distinct hw).1.2.1 x.symm
    · exact (distinct hw).2.2.1.1
  split at h
  · next e => cases h; exact ⟨true, by rw [e]; rfl, fun _ => rfl, fun _ _ => rfl⟩
  split at h
  · next e =>
    cases h
    refine ⟨s.tap.coreNeedsReset, by rw [e]; rfl, id, fun hw => other _ ?_ ?_ e⟩
    · exact fun x => (distinct hw).1.2.2.2.1 x.symm
    · exact fun x => (distinct hw).2.2.2.1.1 x.symm
  · cases h

/-- The falling edge changes IR.out in Update-IR and Test-Logic-Reset, BSR.out in Update-DR with the
boundary-scan register selected, and nothing else but the mark that the core needs a RESET. -/
theorem tapFall_next (s : State) : ∃ loaded needs, tapFall s = .next { s with tap := { s.tap with
      irOut := (match s.tap.ctl with
        | .updateIr => s.tap.irShift
        | .testLogicReset => s.board.ir.idcode
        | _ => s.tap.irOut)
      bsrOut := (match s.tap.ctl, s.sel with
        | .updateDr, .bsr => s.tap.bsrShift
        | _, _ => s.tap.bsrOut)
      bsrLoaded := loaded
      coreNeedsReset := needs } } ∧ (s.tap.coreNeedsReset = true → needs = true) := by
  unfold tapFall
  cases hc : s.tap.ctl
  case updateIr =>
    dsimp only
    cases hd : decodeIr s.board.ir s.tap.irShift with
    | none => exact ⟨s.tap.bsrLoaded, s.tap.coreNeedsReset, by simp only [State.setIrOut], id⟩
    | some i =>
      obtain ⟨b, e, keep, _⟩ := exec_decodeIr hd
      exact ⟨s.tap.bsrLoaded, b, by simp only [e], keep⟩
  case updateDr =>
    dsimp only [State.updateDr]
    cases s.sel
    · exact ⟨true, s.tap.coreNeedsReset, by simp only, id⟩
    · exact ⟨s.tap.bsrLoaded, s.tap.coreNeedsReset, by simp only, id⟩
    · exact ⟨s.tap.bsrLoaded, s.tap.coreNeedsReset, by simp only, id⟩
  all_goals exact ⟨s.tap.bsrLoaded, s.tap.coreNeedsReset, by simp only [State.setIrOut], id⟩

/-! ### The period -/

/-- A TCK period of a controller that is not held in reset: what it leaves in the test logic, and that of the
rest of the machine it changes only the test pins and the free values taken. -/
theorem tapCycle_next {s : State} (h : s.tapHeld = false) (tms tdi : Bool) (changing : List PinBit) :
    ∃ t, tapCycle tms tdi changing s = .next t ∧
      t.tap.ctl = s.tap.ctl.after tms ∧
      t.tap.irShift = (match s.tap.ctl with
        | .captureIr => s.board.ir.capture
        | .shiftIr => shiftBits s.tap.irShift tdi
        | _ => s.tap.irShift) ∧
      t.tap.irOut = (match s.tap.ctl.after tms with
        | .updateIr => s.tap.irShift
        | .testLogicReset => s.board.ir.idcode
        | _ => s.tap.irOut) ∧
      t.tap.bsrShift = (match s.tap.ctl, s.sel with
        | .captureDr, .bsr => captureCells (s.board.bsrMap.map (s.cellCapture changing)) s.draws
        | .shiftDr, .bsr => shiftBits s.tap.bsrShift tdi
        | _, _ => s.tap.bsrShift) ∧
      t.tap.bsrOut = (match s.tap.ctl.after tms, s.sel with
        | .updateDr, .bsr => s.tap.bsrShift
        | _, _ => s.tap.bsrOut) ∧
      t.tap.dir = (match s.tap.ctl, s.sel with
        | .captureDr, .dir => s.board.dirValue
        | .shiftDr, .dir => shiftVec s.tap.dir tdi
        | _, _ => s.tap.dir) ∧
      t.tap.br = (match s.tap.ctl, s.sel with
        | .captureDr, .br => false
        | .shiftDr, .br => tdi
        | _, _ => s.tap.br) ∧
      t.tap.tdo = (match s.tap.ctl.after tms with
        | .shiftIr => firstBit t.tap.irShift
        | .shiftDr => t.drBit
        | _ => .z) ∧
      t.tapHeld = false ∧ (∃ n, t = { s.setTestPins tms tdi with tap := t.tap, draws := n }) := by
  obtain ⟨a, b, c, d, n, hr⟩ := (s.setTestPins tms tdi).tapRise_frame tms tdi changing
  have hi := (s.setTestPins tms tdi).tapRise_irShift tms tdi changing
  have hb := (s.setTestPins tms tdi).tapRise_bsrShift tms tdi changing
  have hd := (s.setTestPins tms tdi).tapRise_dir tms tdi changing
  have hy := (s.setTestPins tms tdi).tapRise_br tms tdi changing
  rw [hr] at hi hb hd hy
  simp only [State.setTestPins_tap, State.setTestPins_board, State.setTestPins_sel, State.setTestPins_draws,
    State.setTestPins_cellCapture] at hi hb hd hy
  obtain ⟨l, m, hf, _⟩ := tapFall_next ((s.setTestPins tms tdi).tapRise tms tdi changing)
  rw [hr] at hf
  obtain ⟨u, hf, hu⟩ : ∃ u, tapFall _ = .next u ∧ u = _ := ⟨_, hf, rfl⟩
  have e : tapCycle tms tdi changing s = .next u.driveTdo := by
    rw [tapCycle, if_neg (by simp [h]), hr, hf]
  subst hu
  refine ⟨_, e, rfl, hi, ?_, hb, ?_, hd, hy, rfl, h, n, rfl⟩
  · subst hi
    change (match s.tap.ctl.after tms with
      | .updateIr => _
      | .testLogicReset => _
      | _ => _) = _
    cases s.tap.ctl <;> cases tms <;> rfl
  · subst hb
    change (match s.tap.ctl.after tms, s.sel with
      | .updateDr, .bsr => _
      | _, _ => _) = _
    cases s.tap.ctl <;> cases tms <;> cases s.sel <;> rfl

/-- A TCK period of a controller that is held in reset. -/
theorem tapCycle_held {s : State} (h : s.tapHeld = true) (tms tdi : Bool) (changing : List PinBit) :
    tapCycle tms tdi changing s = .next (s.setTestPins tms tdi).tapReset := by
  rw [tapCycle, if_pos (by simp [h])]

/-- What a schedule calls a TCK period is one with some sampled TMS and TDI, and free values may be taken for them. -/
theorem tapStep_cycle (tms tdi : Sample) (changing : List PinBit) (s : State) :
    ∃ a b n, tapStep tms tdi changing s = tapCycle a b changing { s with draws := n } := by
  cases tms <;> cases tdi <;> exact ⟨_, _, _, rfl⟩

end Sys2Proof.Machine
end

