-- ==== Sys2Proof/Laws/Traps.lean ====
section
/-! SUPPORT. The stack operations and the trap entry, each once for every use (R264, R366). -/

namespace Sys2Proof.Machine

/-! ### The stack -/

/-- A push to a free slot. -/
theorem push16_ok {s : State} (v : Word) (h : s.slotFree 1 = true) :
    push16 v s = .ok ((), (s.pokeWord (s.linear .ss (s.slotBelow 1)) v).setR16 .sp (s.slotBelow 1)) := by
  simp only [State.slotFree, Bool.and_eq_true] at h
  rw [push16, run_view_bind, run_bind_ok (checkLimit_ok h.1), run_view_bind, run_bind_ok (writeWord_ram v h.2)]
  rfl

/-- The read of a pop. -/
theorem peek16_ok {s : State} {v : Word} (h : s.holdsAt (.mem .ss (s.slotAbove 0)) = some v) :
    peek16 s = .ok (v, s) := by
  simp only [State.holdsAt] at h
  split at h
  · next hl => rw [peek16, run_view_bind, run_bind_ok (checkLimit_ok hl), run_view_bind, readWord_peek h]
  · cases h

/-- A pop of a slot that holds a value. -/
theorem pop16_ok {s : State} {v : Word} (h : s.holdsAt (.mem .ss (s.slotAbove 0)) = some v) :
    pop16 s = .ok (v, s.setR16 .sp (s.slotAbove 1)) := by
  rw [pop16, run_bind_ok (peek16_ok h)]
  rfl

/-- A push to a slot past the limit raises SS with nothing stored (R79). -/
theorem push16_fail {s : State} (v : Word) (h : s.inLimit .ss (s.slotBelow 1) 2 = false) :
    push16 v s = .error (.raise .ss s) := by
  rw [push16, run_view_bind, run_bind_error (checkLimit_fail h)]
  rfl

/-! ### Trap entry -/

theorem State.pokeWord_storable (s : State) (lin k : Dword) (v : Word) :
    (s.pokeWord lin v).storable k = s.storable k := rfl

/-- A trap entry that meets no obstacle leaves the state `entered` (R366). -/
theorem trapEntry_ok {s : State} {n : Byte} (rip : Word) (h : s.canEnter n = true) :
    trapEntry n rip s = .ok ((), s.entered n rip) := by
  simp only [State.canEnter, State.slotFree, Bool.and_eq_true, decide_eq_true_eq] at h
  obtain ⟨⟨⟨⟨hv, ht⟩, h1⟩, h2⟩, h3⟩ := h
  obtain ⟨⟨off, seg⟩, hvec⟩ := Option.isSome_iff_exists.1 ht
  have hvec' := hvec
  simp only [State.vector] at hvec'
  split at hvec'
  · next off' seg' ho hs =>
    simp only [Option.some.injEq, Prod.mk.injEq] at hvec'
    obtain ⟨rfl, rfl⟩ := hvec'
    rw [trapEntry, run_view_bind, if_neg (by omega)]
    simp only [run_view_bind]
    rw [run_bind_ok (checkLimit_ok h1.1), run_bind_ok (checkLimit_ok h2.1), run_bind_ok (checkLimit_ok h3.1),
      run_bind_ok (readWord_peek ho), run_bind_ok (readWord_peek hs)]
    simp only [run_view_bind]
    rw [run_bind_ok (writeWord_ram _ h1.2), run_bind_ok (writeWord_ram _ (by exact h2.2)),
      run_bind_ok (writeWord_ram _ (by exact h3.2)), run_update]
    simp only [State.entered, hvec]
  · cases hvec'

/-- A delivered event whose entry meets no obstacle (R366). -/
theorem deliver_entered {s : State} {n : Byte} (c : Bool) (rip : Word) (h : s.canEnter n = true) :
    deliver n c rip s = .next (s.entered n rip) := by
  simp only [deliver, trapEntry_ok rip h, conclude_ok]

/-- A fault whose entry meets no obstacle: the saved IP is the instruction's own (R361, R368). -/
theorem deliverFault_entered {s : State} {e : Exc} (h : s.canEnter e.vector = true) :
    deliverFault e s = .next (s.entered e.vector s.ip) := deliver_entered _ _ h

/-- A trap entry whose first slot passes the stack limit raises SS with nothing read or stored (R366). -/
theorem trapEntry_noSlot {s : State} {n : Byte} (rip : Word) (hv : 4 * n.toNat + 3 ≤ s.sys.idtr.limit.toNat)
    (h : s.inLimit .ss (s.slotBelow 1) 2 = false ∨ s.inLimit .ss (s.slotBelow 2) 2 = false ∨
      s.inLimit .ss (s.slotBelow 3) 2 = false) :
    trapEntry n rip s = .error (.raise .ss s) := by
  rw [trapEntry, run_view_bind, if_neg (by omega)]
  simp only [run_view_bind]
  cases h1 : s.inLimit .ss (s.slotBelow 1) 2 with
  | false => rw [run_bind_error (checkLimit_fail h1)]; rfl
  | true =>
    rw [run_bind_ok (checkLimit_ok h1)]
    cases h2 : s.inLimit .ss (s.slotBelow 2) 2 with
    | false => rw [run_bind_error (checkLimit_fail h2)]; rfl
    | true =>
      rw [run_bind_ok (checkLimit_ok h2)]
      have h3 : s.inLimit .ss (s.slotBelow 3) 2 = false := by simpa [h1, h2] using h
      rw [run_bind_error (checkLimit_fail h3)]; rfl

end Sys2Proof.Machine
end

