-- ==== Sys2Proof/Tests/Slice0.lean ====
section
/-! SUPPORT. Tests: words written out from the encoding tables, the examples of spec/43_x86_core_subset.md
and spec/95_test_vectors.md as single steps, and for each obligation with hypotheses a state that meets them. -/

namespace Sys2Proof.Tests

open Sys2Proof Sys2Proof.Machine

set_option Elab.async false
set_option maxRecDepth 20000

/-! ### Helpers -/

/-- Bytes preloaded from an address on. -/
def load (a : Nat) : List Byte → State → State
  | [], s => s
  | b :: rest, s => load (a + 1) rest { s with mem := Memory.set s.mem a b }

/-- The start state of the test vectors: pc = 0100h, SP = 8000h, every segment 0, FLAGS = 0002h. -/
def start : State := ((State.reset.loadSeg .cs 0).setIp 0x100).setR16 .sp 0x8000

/-- The start state with code at 0100h, changed by `f`. -/
def bench (code : List Byte) (f : State → State) : State := f (load 0x100 code start)

/-- A vector table entry with segment 0. -/
def withVector (n : Nat) (off : Word) (s : State) : State := load (4 * n) [loByte off, hiByte off, 0, 0] s

/-- Whether an outcome is a next state with a property. -/
def leads (o : Host.Outcome State Fault Refusal) (p : State → Bool) : Bool :=
  match o with
  | .next s => p s
  | .fault _ => false
  | .refused _ => false

/-- Whether an outcome is the fault `f`. -/
def faults (o : Host.Outcome State Fault Refusal) (f : Fault) : Bool :=
  match o with
  | .next _ => false
  | .fault g => g == f
  | .refused _ => false

/-- Whether an outcome is the refusal `r`. -/
def refuses (o : Host.Outcome State Fault Refusal) (r : Refusal) : Bool :=
  match o with
  | .next _ => false
  | .fault _ => false
  | .refused q => q == r

/-- The 16-bit datum at a physical address. -/
def wordAt (s : State) (a : Nat) : Option Word := do
  return joinBytes (← Memory.get s.mem a) (← Memory.get s.mem (a + 1))

/-- CF, PF, ZF, SF, OF; AF is free after many instructions. -/
def flagsAre (s : State) (cf pf zf sf ovf : Bool) : Bool :=
  s.flag .cf == cf && s.flag .pf == pf && s.flag .zf == zf && s.flag .sf == sf && s.flag .ovf == ovf

/-- One step of a bench. -/
def run (code : List Byte) (f : State → State) (p : State → Bool) : Bool := leads (step (bench code f)) p

/-! ### Ill-formed terms (R107) -/

/-- BP alone with no displacement. -/
def bad : Rm := .based .bp .none

theorem test_wellFormed_refuses_arith : ([.addRmR bad .ax, .addRRm .ax bad, .orRmR bad .ax, .orRRm .ax bad,
    .adcRmR bad .ax, .adcRRm .ax bad, .sbbRmR bad .ax, .sbbRRm .ax bad, .andRmR bad .ax, .andRRm .ax bad,
    .subRmR bad .ax, .subRRm .ax bad, .xorRmR bad .ax, .xorRRm .ax bad, .cmpRmR bad .ax, .cmpRRm .ax bad,
    .testRmR bad .ax, .testRmImm16 bad 1] : List Instr).all (fun i => !i.wellFormed) = true := by decide

theorem test_wellFormed_refuses_immediate : ([.addRmImm16 bad 1, .addRmImm8 bad 1, .orRmImm16 bad 1,
    .orRmImm8 bad 1, .adcRmImm16 bad 1, .adcRmImm8 bad 1, .sbbRmImm16 bad 1, .sbbRmImm8 bad 1, .andRmImm16 bad 1,
    .andRmImm8 bad 1, .subRmImm16 bad 1, .subRmImm8 bad 1, .xorRmImm16 bad 1, .xorRmImm8 bad 1, .cmpRmImm16 bad 1,
    .cmpRmImm8 bad 1] : List Instr).all (fun i => !i.wellFormed) = true := by decide

theorem test_wellFormed_refuses_other : ([.notRm bad, .negRm bad, .mulRm bad, .imulRm bad, .divRm bad,
    .idivRm bad, .shlRmImm8 bad 1, .shlRm1 bad, .shlRmCl bad, .shrRmImm8 bad 1, .shrRm1 bad, .shrRmCl bad,
    .sarRmImm8 bad 1, .sarRm1 bad, .sarRmCl bad, .movRmR bad .ax, .movRRm .ax bad, .movRmImm16 bad 1,
    .movRmSreg bad (.seg .ds), .movSregRm (.seg .ds) bad] : List Instr).all (fun i => !i.wellFormed) = true := by
  decide

/-! ### Words written out from R101, R107, R110, R112, R113 -/

/-- Every word decodes to its instruction with nothing left. -/
def reads (rows : List (List Byte × Instr)) : Bool := rows.all fun r => decide (decodeBytes r.1 = .instr r.2 [])

/-- The expected codes of R101, bit 0 first. -/
theorem test_decode_tap : decodeIr .expected [false, false, false, false, false] = some .extest ∧
    decodeIr .expected [true, false, false, false, false] = some .samplePreload ∧
    decodeIr .expected [false, true, false, false, false] = some .idcode ∧
    decodeIr .expected [true, true, false, false, false] = some .highz ∧
    decodeIr .expected [true, true, true, true, true] = some .bypass ∧
    decodeIr .expected [false, false, true, false, false] = none := by decide

/-- The expected parameters meet D16; two equal codes, or a BYPASS that is not all ones, do not. -/
theorem test_codes_wf : TapCodes.expected.wf = true ∧
    ({ TapCodes.expected with highz := TapCodes.expected.extest } : TapCodes).wf = false ∧
    ({ TapCodes.expected with bypass := bitsOf 5 0b01111 } : TapCodes).wf = false ∧
    ({ TapCodes.expected with capture := bitsOf 5 0b00010 } : TapCodes).wf = false := by decide +kernel

/-- A part with three-bit codes, which R11 leaves open. -/
def shortCodes : TapCodes :=
  { len := 3, extest := bitsOf 3 0, sample := bitsOf 3 1, idcode := bitsOf 3 5, highz := bitsOf 3 6
    bypass := bitsOf 3 7, capture := bitsOf 3 1 }

theorem test_decode_add_or_adc_sbb : reads [([0x01, 0xD8], .addRmR (.reg .ax) .bx), ([0x03, 0xC3], .addRRm .ax (.reg .bx)),
    ([0x05, 0x01, 0x00], .addAxImm 1), ([0x81, 0xC3, 0x34, 0x12], .addRmImm16 (.reg .bx) 0x1234),
    ([0x83, 0xC4, 0x06], .addRmImm8 (.reg .sp) 6), ([0x09, 0x0E, 0x00, 0x30], .orRmR (.direct 0x3000) .cx),
    ([0x0B, 0xC3], .orRRm .ax (.reg .bx)), ([0x0D, 0xFF, 0x00], .orAxImm 0x00FF),
    ([0x81, 0x0F, 0x01, 0x80], .orRmImm16 (.based .bx .none) 0x8001), ([0x83, 0xC9, 0x80], .orRmImm8 (.reg .cx) 0x80),
    ([0x11, 0xD8], .adcRmR (.reg .ax) .bx), ([0x13, 0x46, 0xFE], .adcRRm .ax (.based .bp (.d8 0xFE))),
    ([0x15, 0x00, 0x80], .adcAxImm 0x8000), ([0x81, 0xD6, 0x01, 0x00], .adcRmImm16 (.reg .si) 1),
    ([0x83, 0xD0, 0xFF], .adcRmImm8 (.reg .ax) 0xFF), ([0x19, 0xD8], .sbbRmR (.reg .ax) .bx),
    ([0x1B, 0x38], .sbbRRm .di (.based .bxSi .none)), ([0x1D, 0x00, 0x00], .sbbAxImm 0),
    ([0x81, 0xDA, 0x02, 0x00], .sbbRmImm16 (.reg .dx) 2), ([0x83, 0xDF, 0x01], .sbbRmImm8 (.reg .di) 1)] = true := by
  decide +kernel

theorem test_decode_and_sub_xor_cmp_test : reads [([0x21, 0xD8], .andRmR (.reg .ax) .bx),
    ([0x23, 0x94, 0x00, 0x01], .andRRm .dx (.based .si (.d16 0x0100))), ([0x25, 0x0F, 0x00], .andAxImm 0x000F),
    ([0x81, 0xE3, 0x0F, 0xF0], .andRmImm16 (.reg .bx) 0xF00F), ([0x83, 0xE1, 0x0F], .andRmImm8 (.reg .cx) 0x0F),
    ([0x29, 0xD8], .subRmR (.reg .ax) .bx), ([0x2B, 0x45, 0x04], .subRRm .ax (.based .di (.d8 4))),
    ([0x2D, 0x01, 0x00], .subAxImm 1), ([0x81, 0xEC, 0x10, 0x00], .subRmImm16 (.reg .sp) 0x10),
    ([0x83, 0xED, 0x02], .subRmImm8 (.reg .bp) 2), ([0x31, 0xC0], .xorRmR (.reg .ax) .ax),
    ([0x33, 0x01], .xorRRm .ax (.based .bxDi .none)), ([0x35, 0xFF, 0xFF], .xorAxImm 0xFFFF),
    ([0x81, 0xF7, 0xAA, 0x55], .xorRmImm16 (.reg .di) 0x55AA), ([0x83, 0xF0, 0xFF], .xorRmImm8 (.reg .ax) 0xFF),
    ([0x39, 0x32], .cmpRmR (.based .bpSi .none) .si), ([0x3B, 0x2B], .cmpRRm .bp (.based .bpDi .none)),
    ([0x3D, 0x00, 0x80], .cmpAxImm 0x8000), ([0x81, 0xF9, 0x0A, 0x00], .cmpRmImm16 (.reg .cx) 10),
    ([0x83, 0xFA, 0x00], .cmpRmImm8 (.reg .dx) 0), ([0x85, 0xDB], .testRmR (.reg .bx) .bx),
    ([0xF7, 0xC0, 0x00, 0x80], .testRmImm16 (.reg .ax) 0x8000)] = true := by decide +kernel

theorem test_decode_unary_shift : reads [([0x40], .incR .ax), ([0x47], .incR .di), ([0x49], .decR .cx),
    ([0x4C], .decR .sp), ([0xF7, 0xD0], .notRm (.reg .ax)), ([0xF7, 0x1C], .negRm (.based .si .none)),
    ([0xF7, 0xE3], .mulRm (.reg .bx)), ([0xF7, 0xEB], .imulRm (.reg .bx)), ([0xF7, 0xF3], .divRm (.reg .bx)),
    ([0xF7, 0x3E, 0x00, 0x20], .idivRm (.direct 0x2000)), ([0xC1, 0xE0, 0x04], .shlRmImm8 (.reg .ax) 4),
    ([0xD1, 0xE0], .shlRm1 (.reg .ax)), ([0xD3, 0xE7], .shlRmCl (.reg .di)), ([0xC1, 0xE8, 0x04], .shrRmImm8 (.reg .ax) 4),
    ([0xD1, 0xEB], .shrRm1 (.reg .bx)), ([0xD3, 0x2D], .shrRmCl (.based .di .none)),
    ([0xC1, 0xFA, 0x0F], .sarRmImm8 (.reg .dx) 15), ([0xD1, 0xF9], .sarRm1 (.reg .cx)),
    ([0xD3, 0xF8], .sarRmCl (.reg .ax))] = true := by decide +kernel

theorem test_decode_data : reads [([0xB4, 0x7F], .movR8Imm8 .ah 0x7F), ([0xB0, 0x01], .movR8Imm8 .al 1),
    ([0xBB, 0x34, 0x12], .movRImm16 .bx 0x1234), ([0x89, 0x47, 0x02], .movRmR (.based .bx (.d8 2)) .ax),
    ([0x8B, 0x0E, 0x00, 0x30], .movRRm .cx (.direct 0x3000)), ([0xA1, 0x00, 0x30], .movAxMoffs 0x3000),
    ([0xA3, 0xFE, 0xFF], .movMoffsAx 0xFFFE), ([0xC7, 0x06, 0x00, 0x20, 0x34, 0x12], .movRmImm16 (.direct 0x2000) 0x1234),
    ([0x8E, 0xD0], .movSregRm (.seg .ss) (.reg .ax)), ([0x8E, 0xF0], .movSregRm .six (.reg .ax)),
    ([0x8C, 0xCB], .movRmSreg (.reg .bx) (.seg .cs)), ([0x8C, 0xF8], .movRmSreg (.reg .ax) .seven),
    ([0x54], .pushR .sp), ([0x5B], .popR .bx)] = true := by decide +kernel

theorem test_decode_jumps : reads [([0x70, 0x10], .jo 0x10), ([0x71, 0x10], .jno 0x10), ([0x72, 0x10], .jb 0x10),
    ([0x73, 0x10], .jae 0x10), ([0x74, 0x10], .je 0x10), ([0x75, 0x10], .jne 0x10), ([0x76, 0x10], .jbe 0x10),
    ([0x77, 0x10], .ja 0x10), ([0x78, 0x10], .js 0x10), ([0x79, 0x10], .jns 0x10), ([0x7A, 0x10], .jp 0x10),
    ([0x7B, 0x10], .jnp 0x10), ([0x7C, 0x10], .jl 0x10), ([0x7D, 0x10], .jge 0x10), ([0x7E, 0x10], .jle 0x10),
    ([0x7F, 0x10], .jg 0x10), ([0xEB, 0xFE], .jmpRel8 0xFE), ([0xE9, 0xFD, 0xFF], .jmpRel16 0xFFFD),
    ([0xEA, 0x00, 0x01, 0x00, 0x10], .jmpFar 0x1000 0x0100), ([0xE8, 0x10, 0x00], .callRel16 0x0010),
    ([0xC3], .ret), ([0xE2, 0xFE], .loop 0xFE), ([0xCD, 0x21], .intImm8 0x21), ([0xCC], .int3), ([0xCF], .iret)] = true := by
  decide +kernel

theorem test_decode_flags_ports_other : reads [([0xF8], .clc), ([0xF9], .stc), ([0xF5], .cmc), ([0xFA], .cli),
    ([0xFB], .sti), ([0xFC], .cld), ([0xFD], .std), ([0xE4, 0x60], .inAlImm8 0x60), ([0xEC], .inAlDx),
    ([0xED], .inAxDx), ([0xE6, 0x61], .outImm8Al 0x61), ([0xEE], .outDxAl), ([0xEF], .outDxAx), ([0x90], .nop),
    ([0xF4], .hlt), ([0x0F, 0x31], .rdtsc)] = true := by decide +kernel

/-- Encodings outside the subset, by their names in R118. -/
theorem test_decode_refusals : decodeBytes [0x66] = .refused .prefixOperandOrAddressSize ∧
    decodeBytes [0x2E] = .refused .prefixSegmentOverride ∧ decodeBytes [0xD1, 0xC0] = .refused .rotateOrSalAlias ∧
    decodeBytes [0xC1, 0xF0] = .refused .rotateOrSalAlias ∧ decodeBytes [0xF7, 0xC8] = .refused .groupUndefinedSlot ∧
    decodeBytes [0xC7, 0xC8] = .refused .groupUndefinedSlot ∧ decodeBytes [0x0F, 0xA2] = .refused .twoByteOpcode ∧
    decodeBytes [0x9C] = .refused .pushfPopfSahfLahf ∧ decodeBytes [0xE5] = .refused .inOutAxImm8 ∧
    decodeBytes [0x81, 0xC3, 0x34] = .more := by decide +kernel

/-! ### The examples of the instruction rules, each one step -/

theorem test_mov_r8_imm8 : run [0xB4, 0x7F] (·.setR16 .ax 0x1234) (fun s => s.r16 .ax == 0x7F34 && s.ip == 0x102) = true := by
  decide +kernel

theorem test_mov_r16_imm16 : run [0xBB, 0x34, 0x12] id (fun s => s.r16 .bx == 0x1234 && s.ip == 0x103) = true := by
  decide +kernel

theorem test_mov_store : run [0x89, 0x47, 0x02] (fun s => (s.setR16 .ax 0xBEEF).setR16 .bx 0x2000)
    (fun s => Memory.get s.mem 0x2002 == some 0xEF && Memory.get s.mem 0x2003 == some 0xBE && s.ip == 0x103) = true := by
  decide +kernel

theorem test_mov_load : run [0x8B, 0x0E, 0x00, 0x30] (load 0x3000 [0xFE, 0xCA])
    (fun s => s.r16 .cx == 0xCAFE && s.ip == 0x104) = true := by decide +kernel

theorem test_mov_ax_moffs : run [0xA1, 0x00, 0x30] (fun s => load 0x4000 [0xAA, 0x55] (s.loadSeg .ds 0x100))
    (fun s => s.r16 .ax == 0x55AA) = true := by decide +kernel

theorem test_mov_moffs_ax : run [0xA3, 0xFE, 0xFF] (·.setR16 .ax 0x1122)
    (fun s => wordAt s 0xFFFE == some 0x1122 && s.ip == 0x103) = true := by decide +kernel

theorem test_mov_rm_imm16 : run [0xC7, 0x06, 0x00, 0x20, 0x34, 0x12] id
    (fun s => wordAt s 0x2000 == some 0x1234 && s.ip == 0x106) = true := by decide +kernel

theorem test_mov_ss : run [0x8E, 0xD0] (·.setR16 .ax 0x2000) (fun s => s.ip == 0x102 && (s.seg .ss).sel == 0x2000 &&
    (s.seg .ss).base == 0x20000 && s.latch.shadow == .movSs) = true := by decide +kernel

theorem test_mov_cs_raises_ud : run [0x8E, 0xC8] (withVector 6 0x300)
    (fun s => s.ip == 0x300 && wordAt s 0x7FFA == some 0x100) = true := by decide +kernel

theorem test_mov_from_sreg : run [0x8C, 0xCB] (·.setR16 .bx 0xFFFF) (fun s => s.r16 .bx == 0) = true := by decide +kernel

theorem test_push_sp : run [0x54] id (fun s => s.r16 .sp == 0x7FFE && wordAt s 0x7FFE == some 0x8000) = true := by
  decide +kernel

theorem test_pop : run [0x5B] (fun s => load 0x7FFE [0xCD, 0xAB] (s.setR16 .sp 0x7FFE))
    (fun s => s.r16 .bx == 0xABCD && s.r16 .sp == 0x8000) = true := by decide +kernel

theorem test_pop_sp_at_top_raises_ss : run [0x5C] (fun s => withVector 12 0x500 (s.setR16 .sp 0xFFFF))
    (fun s => s.ip == 0x500 && s.r16 .sp == 0xFFF9) = true := by decide +kernel

theorem test_add : run [0x05, 0x01, 0x00] (·.setR16 .ax 0x7FFF)
    (fun s => s.r16 .ax == 0x8000 && flagsAre s false true false true true && s.flag .af) = true := by decide +kernel

theorem test_add_memory : run [0x83, 0x06, 0x00, 0x10, 0xFF] (load 0x1000 [0x00, 0x80])
    (fun s => wordAt s 0x1000 == some 0x7FFF && flagsAre s true true false false true && !s.flag .af) = true := by decide +kernel

theorem test_or : run [0x0B, 0xC3] (fun s => (s.setR16 .ax 0x00F0).setR16 .bx 0x0F00)
    (fun s => s.r16 .ax == 0x0FF0 && flagsAre s false true false false false) = true := by decide +kernel

theorem test_adc : run [0x83, 0xD0, 0xFF] (·.setFlag .cf true)
    (fun s => s.r16 .ax == 0 && flagsAre s true true true false false && s.flag .af) = true := by decide +kernel

theorem test_sbb : run [0x1D, 0x00, 0x00] (·.setFlag .cf true)
    (fun s => s.r16 .ax == 0xFFFF && flagsAre s true true false true false && s.flag .af) = true := by decide +kernel

theorem test_and : run [0x81, 0xE3, 0x0F, 0xF0] (·.setR16 .bx 0x1234)
    (fun s => s.r16 .bx == 0x1004 && flagsAre s false false false false false) = true := by decide +kernel

theorem test_sub : run [0x29, 0xD8] (fun s => (s.setR16 .ax 1).setR16 .bx 2)
    (fun s => s.r16 .ax == 0xFFFF && flagsAre s true true false true false && s.flag .af) = true := by decide +kernel

theorem test_xor : run [0x31, 0xC0] (fun s => (s.setR16 .ax 0x5A5A).setFlag .cf true)
    (fun s => s.r16 .ax == 0 && flagsAre s false true true false false) = true := by decide +kernel

theorem test_cmp : run [0x3D, 0x00, 0x80] (·.setR16 .ax 0x7FFF)
    (fun s => s.r16 .ax == 0x7FFF && flagsAre s true true false true true && !s.flag .af) = true := by decide +kernel

theorem test_test : run [0xF7, 0xC0, 0x00, 0x80] (fun s => (s.setR16 .ax 0x8001).setFlag .cf true)
    (fun s => s.r16 .ax == 0x8001 && flagsAre s false true false true false) = true := by decide +kernel

theorem test_inc : run [0x40] (fun s => (s.setR16 .ax 0xFFFF).setFlag .cf true)
    (fun s => s.r16 .ax == 0 && flagsAre s true true true false false && s.flag .af) = true := by decide +kernel

theorem test_dec : run [0x49] (·.setR16 .cx 0x8000)
    (fun s => s.r16 .cx == 0x7FFF && flagsAre s false true false false true && s.flag .af) = true := by decide +kernel

theorem test_not : run [0xF7, 0xD0] (fun s => (s.setR16 .ax 0x00FF).setFlag .zf true)
    (fun s => s.r16 .ax == 0xFF00 && flagsAre s false false true false false) = true := by decide +kernel

theorem test_neg : run [0xF7, 0xD8] (·.setR16 .ax 1)
    (fun s => s.r16 .ax == 0xFFFF && flagsAre s true true false true false && s.flag .af) = true := by decide +kernel

theorem test_mul : run [0xF7, 0xE3] (fun s => (s.setR16 .ax 0xFFFF).setR16 .bx 0xFFFF)
    (fun s => s.r16 .dx == 0xFFFE && s.r16 .ax == 1 && s.flag .cf && s.flag .ovf) = true := by decide +kernel

theorem test_imul : run [0xF7, 0xEB] (fun s => (s.setR16 .ax 0xFFFF).setR16 .bx 2)
    (fun s => s.r16 .dx == 0xFFFF && s.r16 .ax == 0xFFFE && !s.flag .cf && !s.flag .ovf) = true := by decide +kernel

theorem test_div : run [0xF7, 0xF3] (fun s => ((s.setR16 .dx 1).setR16 .ax 0).setR16 .bx 3)
    (fun s => s.r16 .ax == 0x5555 && s.r16 .dx == 1) = true := by decide +kernel

theorem test_div_by_zero : run [0xF7, 0xF3] (withVector 0 0x300)
    (fun s => s.ip == 0x300 && s.r16 .sp == 0x7FFA && wordAt s 0x7FFA == some 0x100) = true := by decide +kernel

theorem test_idiv : run [0xF7, 0xFB] (fun s => ((s.setR16 .dx 0xFFFF).setR16 .ax 0xFFF9).setR16 .bx 2)
    (fun s => s.r16 .ax == 0xFFFD && s.r16 .dx == 0xFFFF) = true := by decide +kernel

theorem test_shl : run [0xD1, 0xE0] (·.setR16 .ax 0xC000)
    (fun s => s.r16 .ax == 0x8000 && flagsAre s true true false true false) = true := by decide +kernel

theorem test_shr : run [0xC1, 0xE8, 0x04] (·.setR16 .ax 0x8008)
    (fun s => s.r16 .ax == 0x0800 && s.flag .cf && s.flag .pf && !s.flag .zf && !s.flag .sf) = true := by decide +kernel

theorem test_sar : run [0xD3, 0xF8] (fun s => (s.setR16 .ax 0x8001).setR16 .cx 1)
    (fun s => s.r16 .ax == 0xC000 && flagsAre s true true false true false) = true := by decide +kernel

theorem test_jmp_rel8 : run [0xEB, 0xFE] id (fun s => s.ip == 0x100) = true := by decide +kernel

theorem test_jmp_rel16_wraps : leads (step (load 0 [0xE9, 0xFD, 0xFF] (start.setIp 0))) (fun s => s.ip == 0) = true := by
  decide +kernel

theorem test_jmp_far_from_reset : leads (step (load 0xFFFFFFF0 [0xEA, 0x00, 0x01, 0x00, 0x10] State.reset))
    (fun s => s.ip == 0x100 && (s.seg .cs).sel == 0x1000 && (s.seg .cs).base == 0x10000) = true := by decide +kernel

/-- With CF and SF set and the other flags clear, the conditions of R114 from O to G. -/
theorem test_jcc : ([0x70, 0x71, 0x72, 0x73, 0x74, 0x75, 0x76, 0x77, 0x78, 0x79, 0x7A, 0x7B, 0x7C, 0x7D, 0x7E,
    0x7F] : List Byte).map (fun b => run [b, 0x10] (fun s => (s.setFlag .cf true).setFlag .sf true)
      (fun s => s.ip == 0x112)) =
    [false, true, true, false, false, true, true, false, true, false, false, true, true, false, true, false] := by
  decide +kernel

theorem test_call : run [0xE8, 0x10, 0x00] id
    (fun s => s.r16 .sp == 0x7FFE && wordAt s 0x7FFE == some 0x103 && s.ip == 0x113) = true := by decide +kernel

theorem test_ret : run [0xC3] (fun s => load 0x7FFE [0x03, 0x01] (s.setR16 .sp 0x7FFE))
    (fun s => s.r16 .sp == 0x8000 && s.ip == 0x103) = true := by decide +kernel

theorem test_loop_taken : run [0xE2, 0xFE] (·.setR16 .cx 2) (fun s => s.r16 .cx == 1 && s.ip == 0x100) = true := by
  decide +kernel

theorem test_loop_ends : run [0xE2, 0xFE] (·.setR16 .cx 1) (fun s => s.r16 .cx == 0 && s.ip == 0x102) = true := by
  decide +kernel

theorem test_int : run [0xCD, 0x21] (fun s => withVector 0x21 0x200 ((s.setFlag .intf true).setFlag .cf true))
    (fun s => s.r16 .sp == 0x7FFA && wordAt s 0x7FFE == some 0x203 && wordAt s 0x7FFC == some 0 &&
      wordAt s 0x7FFA == some 0x102 && s.ip == 0x200 && !s.flag .intf) = true := by decide +kernel

theorem test_int3 : run [0xCC] (withVector 3 0x300)
    (fun s => s.r16 .sp == 0x7FFA && wordAt s 0x7FFA == some 0x101 && s.ip == 0x300) = true := by decide +kernel

theorem test_iret : run [0xCF] (fun s => load 0x7FFA [0x02, 0x01, 0x00, 0x00, 0x03, 0x02] (s.setR16 .sp 0x7FFA))
    (fun s => s.r16 .sp == 0x8000 && s.flag .cf && s.flag .intf && s.ip == 0x102 && (s.seg .cs).sel == 0) = true := by
  decide +kernel

theorem test_push_at_one_shuts_down : run [0x50] (·.setR16 .sp 1) (fun s => s.run == .shutdown && s.r16 .sp == 1) = true := by
  decide +kernel

theorem test_flag_instructions :
    run [0xF8] (·.setFlag .cf true) (fun s => !s.flag .cf) = true ∧ run [0xF9] id (fun s => s.flag .cf) = true ∧
    run [0xF5] (·.setFlag .cf true) (fun s => !s.flag .cf) = true ∧
    run [0xFA] (·.setFlag .intf true) (fun s => !s.flag .intf) = true ∧
    run [0xFB] id (fun s => s.flag .intf && s.latch.shadow == .sti) = true ∧
    run [0xFC] (·.setFlag .df true) (fun s => !s.flag .df) = true ∧ run [0xFD] id (fun s => s.flag .df) = true := by
  decide +kernel

theorem test_in : run [0xE4, 0x60] (fun s => { s.setR16 .ax 0x1200 with answers := [0x5A] })
    (fun s => s.r16 .ax == 0x125A && s.trace == [.ioRead [(0x60, 0x5A)]] && s.answers == []) = true := by decide +kernel

theorem test_out : run [0xEF] (fun s => (s.setR16 .dx 0x03F8).setR16 .ax 0x4142)
    (fun s => s.trace == [.ioWrite [(0x03F8, 0x42), (0x03F9, 0x41)]]) = true := by decide +kernel

/-- Port FFFFh + 1 is port 0000h (R76). -/
theorem test_in_wraps : run [0xED] (fun s => { s.setR16 .dx 0xFFFF with answers := [0x1234] })
    (fun s => s.r16 .ax == 0x1234 && s.trace == [.ioRead [(0xFFFF, 0x34), (0, 0x12)]]) = true := by decide +kernel

/-- A store where nothing is mapped sticks the core with nothing written, and RESET ends that (R75). -/
theorem test_store_nowhere_sticks : run [0xA3, 0xFF, 0x1F] (fun s => { s with
      board := { s.board with memMap := [{ base := 0x2000, size := 0x1000, kind := .nothing .stuck }] }
      schedule := [] }) (fun s => s.run == .stuck && s.ip == 0x100 && Memory.get s.mem 0x1FFF == none &&
        leads (coreStep s) (fun t => t.run == .stuck) &&
        leads (perform (.drive .reset true) s) (fun t => t.run == .running)) = true := by decide +kernel

/-- A platform that drops writes to its ROM (R75). -/
theorem test_store_to_rom_dropped : run [0xA3, 0x00, 0x20] (fun s => load 0x2000 [1, 2] { s with
      board := { s.board with memMap := [{ base := 0x2000, size := 0x1000, kind := .rom .ignored }] } })
    (fun s => s.ip == 0x103 && wordAt s 0x2000 == some 0x0201) = true := by decide +kernel

/-- A CALL whose `next_ip` is 10000h (R41). -/
theorem test_call_at_end_faults :
    faults (step (load 0xFFFD [0xE8, 0x10, 0x00] (start.setIp 0xFFFD))) .fetchPastLimit = true := by decide +kernel

theorem test_nop : run [0x90] id (fun s => s.ip == 0x101 && s.gpr == start.gpr && s.eflags == start.eflags) = true := by
  decide +kernel

theorem test_hlt : run [0xF4] id (fun s => s.ip == 0x101 && s.run == .halted) = true := by decide +kernel

theorem test_rdtsc : run [0x0F, 0x31] id (fun s => s.ip == 0x102 && s.eflags == start.eflags) = true := by decide +kernel

/-! ### Pin events, each one step -/

theorem test_nmi : leads (step (bench [0x90] fun s => withVector 2 0x500 { s with latch := { s.latch with nmiPending := true } }))
    (fun s => s.ip == 0x500 && wordAt s 0x7FFA == some 0x100 && s.latch.nmiBlocked && !s.latch.nmiPending) = true := by
  decide +kernel

theorem test_intr : leads (step (bench [0x90] fun s => withVector 0x20 0x400
      { s.setFlag .intf true with pins := { s.pins with inp := { s.pins.inp with intr := true } }, answers := [0x20] }))
    (fun s => s.ip == 0x400 && wordAt s 0x7FFA == some 0x100 && wordAt s 0x7FFE == some 0x202 && !s.flag .intf) = true := by
  decide +kernel

theorem test_reset_pin : leads (step { bench [0x90] id with schedule := [.drive .reset true] })
    (fun s => s.eip == 0xFFF0 && (s.seg .cs).base == 0xFFFF0000 && s.r32 .sp == 0 && s.tap.ctl == .testLogicReset) = true := by
  decide +kernel

/-! ### The TAP, one TCK period each -/

/-- Four input pins and four output pins, the inputs high (the configuration CFG0 of the test vectors). -/
def eightCells : State :=
  { State.reset with
    board := { Board.default with bsrMap := [.data (.inp .wbwt), .data (.inp .bf0), .data (.inp .bf1),
      .data (.inp .clk), .data (.out .ads), .data (.out .hlda), .data (.out .lock), .data (.out .pcd)] }
    tap := Tap.reset .expected 8
    pins := { State.reset.pins with
      inp := { State.reset.pins.inp with wbwt := true, bf0 := true, bf1 := true, clk := true }
      out := { CoreOut.floated with ads := .low, hlda := .low, lock := .low, pcd := .low } } }

/-- One TCK period from a controller state with a code in IR.shift and one in force. -/
def tick (c : TapCtl) (shift force : Nat) (tms tdi : Bool) : Host.Outcome State Fault Refusal :=
  step { eightCells with
    tap := { eightCells.tap with ctl := c, irShift := bitsOf 5 shift, irOut := bitsOf 5 force, bsrOut := [true, false, true, false, false, true, false, true], bsrLoaded := true }
    schedule := [.tck (.level tms) (.level tdi) []] }

theorem test_tap_update_ir : ([0, 1, 2, 3, 31, 4] : List Nat).all (fun c =>
    leads (tick .exit1Ir c 31 true false) fun s => s.tap.ctl == .updateIr && s.tap.irOut == bitsOf 5 c && s.tap.tdo == .z) = true := by
  decide +kernel

theorem test_tap_sample_captures_pins : leads (tick .captureDr 0 1 false true)
    (fun s => s.tap.bsrShift == [true, true, true, true, false, false, false, false] && s.tap.tdo == .high) = true := by
  decide +kernel

theorem test_tap_extest_drives_pins : leads (tick .runTestIdle 0 0 false false) (fun s =>
    [PinBit.out .ads, .out .hlda, .out .lock, .out .pcd].map s.pinLevel == [.low, .high, .low, .high]) = true := by decide +kernel

theorem test_tap_highz_floats_pins : leads (tick .runTestIdle 0 3 false false) (fun s =>
    [PinBit.out .ads, .out .hlda, .out .lock, .out .pcd].map s.pinLevel == [.z, .z, .z, .z]) = true := by decide +kernel

theorem test_tap_idcode_first_bit : leads (tick .captureDr 0 2 false false)
    (fun s => s.tap.dir == 0x00580003 && s.tap.tdo == .high) = true := by decide +kernel

theorem test_tap_bypass_first_bit : leads (tick .captureDr 0 31 false true) (fun s => s.tap.tdo == .low) = true := by
  decide +kernel

theorem test_tap_ir_capture : leads (tick .captureIr 0 2 false false)
    (fun s => s.tap.irShift == [true, false, false, false, false] && s.tap.tdo == .high) = true := by decide +kernel

/-- A cell of a pin that is changing at the edge is free, the cells beside it are not (R242). -/
theorem test_tap_changing_pin_is_free : (eightCells.cellCapture [.inp .bf0] (.data (.inp .bf0))) = none ∧
    (eightCells.cellCapture [.inp .bf0] (.data (.inp .bf1))) = some true := by decide +kernel

/-- A TMS nothing drives is high (R143). -/
theorem test_tap_pull_up : leads (step { eightCells with schedule := [.tck .undriven (.level false) []] })
    (fun s => s.tap.ctl == .testLogicReset) = true := by decide +kernel

/-- Three-bit codes scan and decode as well (R11). -/
theorem test_tap_other_codes : leads (step { eightCells with
      board := { eightCells.board with ir := shortCodes }
      tap := { eightCells.tap with ctl := .exit1Ir, irShift := bitsOf 3 6, irOut := bitsOf 3 5 }
      schedule := [.tck (.level true) (.level false) []] })
    (fun s => s.tap.irOut == bitsOf 3 6 && s.tap.coreNeedsReset) = true := by decide +kernel

/-- EXTEST with a BSR.out that nothing loaded drives its reset value, and the state is marked (log 4). -/
theorem test_extest_unloaded : leads (exec .extest eightCells)
    (fun s => s.drivesUnloaded && s.pinLevel (.out .ads) == .low) = true := by decide +kernel

/-- The first of a run of loads of SS sets the shadow (R277). -/
theorem test_first_ss_load : leads (exec (.movSregRm (.seg .ss) (.reg .ax)) start)
    (fun s => s.latch.shadow == .movSs && s.draws == start.draws) = true := by decide +kernel

theorem test_table_words : decodeTableWord 8 0x90 = some .nop ∧ decodeTableWord 16 0xC083 = some (.addRmImm8 (.reg .ax) 0) ∧
    decodeTableWord 5 3 = some .highz ∧
    leads (step (State.reset.withFetchWord 5 3)) (fun s => s.tap.irOut == [true, true, false, false, false]) = true ∧
    leads (step (State.reset.withFetchWord 8 0x40)) (fun s => s.r16 .ax == 1 && s.ip == 0xFFF1) = true := by decide +kernel

/-! ### For each obligation with hypotheses a state and operands that meet them -/

/-- Whether an outcome is a next state. -/
def completes (o : Host.Outcome State Fault Refusal) : Bool := leads o fun _ => true

/-- Data at 2000h and FFFEh, the vectors 0 to 34 at 300h, BX = 3, DX = 0. -/
def prepared : State :=
  ((List.range 35).foldl (fun s n => withVector n 0x300 s)
    (load 0xFFFE [0x34, 0x12] (load 0x2000 [0x78, 0x56] start))).setR16 .bx 3 |>.setR16 .dx 0

theorem witness_DecodeOfEncode : TapCodes.expected.wf = true ∧ shortCodes.wf = true ∧ (Instr.addRmR (.based .bp (.d8 0)) .ax).wellFormed = true ∧
    Instr.bypass.wellFormed = true := by decide

theorem witness_DecodedBytesAreItsEncoding :
    decodeBytes [0x01, 0xD8, 0x90] = .instr (.addRmR (.reg .ax) .bx) [0x90] := by decide

theorem witness_DecodedBytesAreItsEncoding_six : 6 ≤ ([0x90, 0, 0, 0, 0, 0] : List Byte).length ∧
    6 ≤ ([0x66, 0, 0, 0, 0, 0] : List Byte).length := by decide

theorem witness_StepRunsDecoded : (bench [0xA1, 0x00, 0x20] id).ready = true ∧
    decodeBytes [0xA1, 0x00, 0x20] = .instr (.movAxMoffs 0x2000) [] ∧
    ∀ (k : Nat) (h : k < [0xA1#8, 0x00#8, 0x20#8].length),
      (bench [0xA1, 0x00, 0x20] id).fetches k [0xA1#8, 0x00#8, 0x20#8][k] := by
  unfold State.fetches; decide +kernel

/-- The same with the last byte at offset FFFFh. -/
theorem witness_StepRunsDecoded_top : (load 0xFFFE [0xEB, 0x00] (start.setIp 0xFFFE)).ready = true ∧
    decodeBytes [0xEB, 0x00] = .instr (.jmpRel8 0) [] ∧
    ∀ (k : Nat) (h : k < [0xEB#8, 0x00#8].length),
      (load 0xFFFE [0xEB, 0x00] (start.setIp 0xFFFE)).fetches k [0xEB#8, 0x00#8][k] := by
  unfold State.fetches; decide +kernel

/-- The first byte dirty, and the third of three. -/
theorem witness_NeededByteFaults : ({ bench [0x90] id with dirty := [0x100] } : State).ready = true ∧
    decodeBytes [] = .more ∧ start.ip.toNat + 0 ≤ 0xFFFF ∧
    start.phys (start.linear .cs start.ip) ∈ ({ bench [0x90] id with dirty := [0x100] } : State).dirty := by
  decide +kernel

theorem witness_NeededByteFaults_third : ({ bench [0xA1, 0x00, 0x20] id with dirty := [0x102] } : State).ready = true ∧
    decodeBytes [0xA1, 0x00] = .more ∧ (∀ (k : Nat) (h : k < [0xA1#8, 0x00#8].length),
      ({ bench [0xA1, 0x00, 0x20] id with dirty := [0x102] } : State).fetches k [0xA1#8, 0x00#8][k]) ∧
    start.phys (start.linear .cs (start.ip + 2)) ∈ [0x102] := by
  unfold State.fetches; decide +kernel

/-- A byte at offset 10000h. -/
theorem witness_NeededByteFaults_top : (load 0xFFFF [0xA1] (start.setIp 0xFFFF)).ready = true ∧
    decodeBytes [0xA1] = .more ∧ (∀ (k : Nat) (h : k < [0xA1#8].length),
      (load 0xFFFF [0xA1] (start.setIp 0xFFFF)).fetches k [0xA1#8][k]) ∧
    0xFFFF < (load 0xFFFF [0xA1] (start.setIp 0xFFFF)).ip.toNat + [0xA1#8].length := by
  unfold State.fetches; decide +kernel

theorem witness_StoresMarkCodeUntilJump : start.runs (.movMoffsAx 0xFFFE) = true ∧
    completes (exec (.movMoffsAx 0xFFFE) start) = true ∧ transfers (.jmpRel8 0x80) = true ∧
    leads (exec (.jmpRel8 0x80) start) (fun t => t.run == .running) = true ∧ start.notTaken (.jmpRel8 0x80) = false ∧
    leads (exec (.je 0x80) start) (fun t => t.run == .running) = true ∧ start.notTaken (.je 0x80) = true ∧
    leads (deliver 0x21 false 0 prepared) (fun t => t.run == .running) = true := by decide +kernel

theorem witness_FallThroughStops : straightLine .nop = true ∧ (start.setIp 0xFFFF).pastLimit .nop = true ∧
    start.notTaken (.je 0x10) = true ∧ (start.setIp 0xFFFE).pastLimit (.je 0x10) = true ∧
    (start.setR16 .cx 1).notTaken (.loop 0x10) = true ∧ (start.setIp 0xFFFD).pastLimit (.callRel16 0) = true ∧
    (start.setIp 0xFFFE).pastLimit (.intImm8 3) = true ∧ (start.setIp 0xFFFF).pastLimit .int3 = true ∧
    (start.setFlag .tf true).flag .tf = true ∧ ((start.setFlag .tf true).setFlag .tf false).runs .nop = true ∧
    (start.setFlag .tf true).goes (.loop 0xFE) = true ∧ (start.setFlag .tf true).goes (.callRel16 0x10) = true := by
  decide +kernel

theorem witness_jccForm : jccForm (.je 0x10) = some (0x10, fun s => s.flag .zf) := rfl

theorem witness_StraightLineFrame : ([.nop, .hlt, .sti, .rdtsc, .inAlDx, .outDxAx, .pushR .ax, .popR .sp, .incR .di,
    .addRmR (.direct 0xFFFE) .ax, .cmpRmImm8 (.direct 0x2000) 1, .shlRmImm8 (.direct 0x2000) 4, .mulRm (.direct 0x2000),
    .divRm (.reg .bx), .idivRm (.reg .bx), .notRm (.direct 0xFFFE), .movSregRm (.seg .ss) (.direct 0x2000),
    .movRmSreg (.direct 0xFFFE) (.seg .cs), .movMoffsAx 0xFFFE] : List Instr).all
      ((load 0x8000 [1, 2] prepared).runs ·) = true := by decide +kernel

theorem witness_TwoOperandResult :
    twoOperand (.addRmImm8 (.direct 0xFFFE) 0xFF) = some (.add, .direct 0xFFFE, .imm ((0xFF#8).signExtend 16)) ∧
    prepared.holdsAt (prepared.place (.direct 0xFFFE)) = some 0x1234 ∧
    prepared.takes (prepared.place (.direct 0xFFFE)) = true ∧
    prepared.mayFinish (.addRmImm8 (.direct 0xFFFE) 0xFF) = true ∧
    twoOperand (.cmpRRm .ax (.direct 0x2000)) = some (.cmp, .reg .ax, .rm (.direct 0x2000)) ∧
    prepared.sourceValue (.rm (.direct 0x2000)) = some 0x5678 ∧
    prepared.mayFinish (.cmpRRm .ax (.direct 0x2000)) = true := by decide +kernel

theorem witness_IncDecResult : (start.setIp 0xFFFE).mayFinish (.incR .sp) = true ∧ start.mayFinish (.decR .ax) = true := by
  decide +kernel

theorem witness_NotNegResult : prepared.holdsAt (prepared.place (.direct 0xFFFE)) = some 0x1234 ∧
    prepared.takes (prepared.place (.direct 0xFFFE)) = true ∧ prepared.mayFinish (.notRm (.direct 0xFFFE)) = true ∧
    prepared.mayFinish (.negRm (.direct 0xFFFE)) = true := by decide +kernel

theorem witness_MultiplyDivideResult_product : prepared.holdsAt (prepared.place (.direct 0x2000)) = some 0x5678 ∧
    prepared.mayFinish (.mulRm (.direct 0x2000)) = true ∧ prepared.mayFinish (.imulRm (.direct 0x2000)) = true := by
  decide +kernel

/-- A quotient of FFFFh for DIV, and of 7FFFh and -8000h for IDIV, all by the divisor 3 or 1. -/
theorem witness_MultiplyDivideResult : prepared.holdsAt (prepared.place (.reg .bx)) = some 3 ∧ prepared.mayFinish (.divRm (.reg .bx)) = true ∧
    prepared.mayFinish (.idivRm (.reg .bx)) = true ∧
    ((prepared.setR16 .dx 2).setR16 .ax 0xFFFF).dividend.toNat / (3#16).toNat = 0xFFFF ∧
    ((prepared.setR16 .dx 1).setR16 .ax 0x7FFD).dividend.toInt.tdiv (3#16).toInt = 0x7FFF ∧
    ((prepared.setR16 .dx 0xFFFE).setR16 .ax 0x8000).dividend.toInt.tdiv (3#16).toInt = -0x8000 := by decide +kernel

theorem witness_DivideErrorTaken : prepared.holdsAt (prepared.place (.reg .cx)) = some 0 ∧ prepared.canEnter 0 = true ∧
    prepared.pastLimit (.divRm (.reg .cx)) = false ∧ prepared.pastLimit (.idivRm (.reg .cx)) = false ∧
    ((prepared.setR16 .dx 3).setR16 .ax 0).dividend.toNat / (3#16).toNat = 0x10000 ∧
    ((prepared.setR16 .dx 1).setR16 .ax 0x8000).dividend.toInt.tdiv (3#16).toInt = 0x8000 ∧
    ((prepared.setR16 .dx 0xFFFE).setR16 .ax 0x7FFD).dividend.toInt.tdiv (3#16).toInt = -0x8001 := by decide +kernel

theorem witness_ShiftResult : shiftForm (.sarRmCl (.direct 0xFFFE)) = some (.sar, .direct 0xFFFE, fun s => s.r8 .cl) := rfl

theorem witness_ShiftResult_state : prepared.holdsAt (prepared.place (.direct 0xFFFE)) = some 0x1234 ∧
    prepared.takes (prepared.place (.direct 0xFFFE)) = true ∧ prepared.mayFinish (.sarRmCl (.direct 0xFFFE)) = true ∧
    (prepared.r8 .cl).toNat % 32 = 0 ∧ ((prepared.setR8 .cl 0xFF).r8 .cl).toNat % 32 = 31 := by decide +kernel

theorem witness_MoveResult : prepared.mayFinish (.movR8Imm8 .ah 0xFF) = true ∧ prepared.mayFinish (.movRImm16 .sp 0) = true ∧
    prepared.mayFinish (.movRmR (.direct 0xFFFE) .ax) = true ∧ prepared.takes (prepared.place (.direct 0xFFFE)) = true ∧
    prepared.mayFinish (.movRRm .ax (.direct 0xFFFE)) = true ∧
    prepared.holdsAt (prepared.place (.direct 0xFFFE)) = some 0x1234 ∧ prepared.mayFinish (.movAxMoffs 0xFFFE) = true ∧
    prepared.holdsAt (.mem .ds 0xFFFE) = some 0x1234 ∧ prepared.mayFinish (.movMoffsAx 0xFFFE) = true ∧
    prepared.takes (.mem .ds 0xFFFE) = true ∧ prepared.mayFinish (.movRmImm16 (.direct 0xFFFE) 0) = true ∧
    prepared.mayFinish (.movRmSreg (.direct 0xFFFE) (.seg .cs)) = true := by decide +kernel

theorem witness_LoadSegmentResult : prepared.holdsAt (prepared.place (.direct 0xFFFE)) = some 0x1234 ∧
    prepared.mayFinish (.movSregRm (.seg .ds) (.direct 0xFFFE)) = true ∧
    prepared.mayFinish (.movSregRm (.seg .ss) (.direct 0xFFFE)) = true ∧ prepared.latch.shadow = .none ∧
    (prepared.setShadow .movSs).latch.shadow ≠ .none ∧
    (prepared.setShadow .movSs).mayFinish (.movSregRm (.seg .ss) (.reg .ax)) = true ∧
    (prepared.setShadow .spent).latch.shadow ≠ .none := by decide +kernel

theorem witness_LoadSegmentResult_ud : prepared.pastLimit (.movSregRm (.seg .cs) (.reg .ax)) = false ∧
    prepared.pastLimit (.movRmSreg (.reg .ax) .seven) = false ∧ prepared.canEnter 6 = true := by decide +kernel

theorem witness_PushPopResult : prepared.mayFinish (.pushR .sp) = true ∧ (prepared.setR16 .sp 0).slotFree 1 = true ∧
    prepared.mayFinish (.popR .sp) = true ∧
    (prepared.setR16 .sp 0xFFFE).holdsAt (.mem .ss ((prepared.setR16 .sp 0xFFFE).r16 .sp)) = some 0x1234 := by decide +kernel

theorem witness_LimitViolationTaken : rmOperand (.movRRm .ax (.direct 0xFFFF)) = some (.direct 0xFFFF) ∧
    prepared.place (.direct 0xFFFF) = .mem .ds 0xFFFF ∧ (prepared.seg .ds).limit.toNat < (0xFFFF#16).toNat + 1 ∧
    prepared.pastLimit (.movRRm .ax (.direct 0xFFFF)) = false ∧ prepared.canEnter 13 = true ∧
    rmOperand (.addRmR (.based .bp (.d8 0xFF)) .ax) = some (.based .bp (.d8 0xFF)) ∧
    prepared.place (.based .bp (.d8 0xFF)) = .mem .ss 0xFFFF ∧ prepared.canEnter 12 = true ∧
    prepared.pastLimit (.addRmR (.based .bp (.d8 0xFF)) .ax) = false := by decide +kernel

theorem witness_LimitViolationTaken_stack : (prepared.setR16 .sp 0xFFFF).canEnter 12 = true ∧
    (prepared.setR16 .sp 0xFFFF).inLimit .ss ((prepared.setR16 .sp 0xFFFF).r16 .sp) 2 = false ∧
    (prepared.setR16 .sp 0xFFFB).canEnter 12 = true ∧
    (prepared.setR16 .sp 0xFFFB).inLimit .ss ((prepared.setR16 .sp 0xFFFB).r16 .sp + 4) 2 = false ∧
    prepared.pastLimit (.popR .ax) = false ∧
    (start.setR16 .sp 1).inLimit .ss ((start.setR16 .sp 1).r16 .sp - 2) 2 = false ∧
    start.pastLimit (.pushR .ax) = false ∧ start.pastLimit (.callRel16 0) = false ∧
    start.inLimit .cs (start.nextIp (.callRel16 0) + 0) 1 = true := by decide +kernel

theorem witness_JumpResult : start.flag .tf = false ∧
    start.inLimit .cs (start.nextIp (.jmpRel8 0x80) + sext16 0x80) 1 = true ∧
    start.inLimit .cs (start.nextIp (.jmpRel16 0xFEFC) + 0xFEFC) 1 = true ∧ start.inLimit .cs 0xFFFF 1 = true := by
  decide +kernel

theorem witness_JumpResult_conditional : start.flag .tf = false ∧ (start.setFlag .zf true).flag .zf = true ∧
    start.flag .zf = false ∧ start.inLimit .cs (start.nextIp (.je 0x10) + sext16 0x10) 1 = true ∧
    (start.setIp 0xFFFD).pastLimit (.je 0x10) = false := by decide +kernel

theorem witness_LoopResult : start.flag .tf = false ∧ (start.setR16 .cx 1).r16 .cx = 1 ∧
    (start.setIp 0xFFFD).pastLimit (.loop 0) = false ∧ start.r16 .cx ≠ 1 ∧
    start.inLimit .cs (start.nextIp (.loop 0xFE) + sext16 0xFE) 1 = true := by decide +kernel

/-- `next_ip` past FFFFh in a transfer that is taken: it enters the sum (log 17). -/
theorem witness_jump_past_limit : (start.setIp 0xFFFE).pastLimit (.jmpRel8 0x10) = true ∧
    (start.setIp 0xFFFE).inLimit .cs ((start.setIp 0xFFFE).nextIp (.jmpRel8 0x10) + sext16 0x10) 1 = true ∧
    (start.setIp 0xFFFE).pastLimit (.jne 0x10) = true ∧ (start.setIp 0xFFFE).flag .zf = false ∧
    (start.setIp 0xFFFE).inLimit .cs ((start.setIp 0xFFFE).nextIp (.jne 0x10) + sext16 0x10) 1 = true ∧
    (start.setIp 0xFFFE).pastLimit (.loop 0x10) = true ∧ (start.setIp 0xFFFE).r16 .cx ≠ 1 ∧
    (start.setIp 0xFFFE).inLimit .cs ((start.setIp 0xFFFE).nextIp (.loop 0x10) + sext16 0x10) 1 = true ∧
    (start.setIp 0xFFFE).flag .tf = false := by decide +kernel

theorem witness_CallRetResult : prepared.pastLimit (.callRel16 0x10) = false ∧ (prepared.setR16 .sp 0).slotFree 1 = true ∧ prepared.flag .tf = false ∧
    prepared.inLimit .cs (prepared.nextIp (.callRel16 0x10) + 0x10) 1 = true ∧
    (prepared.setR16 .sp 0xFFFE).holdsAt (.mem .ss 0xFFFE) = some 0x1234 ∧ prepared.inLimit .cs 0x1234 1 = true := by
  decide +kernel

theorem witness_SoftwareInterruptEnters : prepared.pastLimit (.intImm8 0x21) = false ∧
    prepared.pastLimit .int3 = false ∧ prepared.canEnter 0x21 = true ∧ prepared.canEnter 3 = true := by decide +kernel

/-- FLAGS images with TF clear and with TF set. -/
theorem witness_IretResult : (load 0x8000 [0, 1, 0, 0, 0x03, 0x02] start).holdsAt (.mem .ss 0x8000) = some 0x100 ∧
    (load 0x8000 [0, 1, 0, 0, 0x03, 0x02] start).holdsAt (.mem .ss 0x8002) = some 0 ∧
    (load 0x8000 [0, 1, 0, 0, 0x03, 0x02] start).holdsAt (.mem .ss 0x8004) = some 0x203 ∧
    start.inLimit .cs 0x100 1 = true ∧ (0x203#16).getLsbD 8 = false ∧
    (load 0x8000 [0, 1, 0, 0, 0x03, 0x01] start).holdsAt (.mem .ss 0x8004) = some 0x103 ∧
    (0x103#16).getLsbD 8 = true := by decide +kernel

theorem witness_mayFinish : ([.clc, .stc, .cmc, .cli, .cld, .std, .nop, .hlt, .rdtsc, .inAlImm8 0xFF, .inAlDx, .inAxDx,
    .outImm8Al 0xFF, .outDxAl, .outDxAx] : List Instr).all (fun i => start.mayFinish i && start.portsAnswer i) = true := by
  decide +kernel

theorem witness_StiDelaysInterrupts : start.mayFinish .sti = true ∧ start.flag .intf = false ∧
    (start.setFlag .intf true).mayFinish .sti = true ∧ (start.setFlag .intf true).flag .intf = true := by decide +kernel

/-- A halted core with IF = 0 and nothing pending. -/
def asleep : State := { start with run := .halted }

theorem witness_HaltStops : asleep.run = .halted ∧ asleep.pins.inp.reset = false ∧ asleep.pinsTaken = false ∧
    asleep.tap.coreNeedsReset = false ∧ asleep.realMode = true ∧ asleep.breakpointArmed = false ∧
    asleep.flag .intf = false ∧ asleep.latch.initPending = false ∧ asleep.latch.smiPending = false ∧
    asleep.latch.nmiPending = false ∧ asleep.latch.flushPending = false ∧ asleep.pins.inp.stpclk = false := by decide +kernel

/-- No event: halted with IF = 0, halted with IF = 1, halted with a blocked NMI, in Stop Grant. -/
theorem witness_HaltStops_events : asleep.events = [] ∧ (asleep.setFlag .intf true).events = [] ∧
    (asleep.setFlag .intf true).flag .intf = true ∧ (asleep.setFlag .intf true).realMode = true ∧
    ({ asleep with latch := { asleep.latch with nmiPending := true, nmiBlocked := true } } : State).events = [] ∧
    ({ start with run := .stopGrant true, pins := { start.pins with inp := start.pins.inp.set .stpclk true } } :
      State).events = [] := by decide +kernel

theorem witness_TrapEntryResult : prepared.canEnter 0x22 = true ∧ prepared.vector 0x22 = some (0x300, 0) ∧
    (prepared.setR16 .sp 0).canEnter 0 = true := by decide +kernel

theorem witness_IretUndoesInterrupt : prepared.canEnter 0x21 = true ∧ prepared.flag .tf = false ∧
    (prepared.seg .cs).base = selBase (prepared.seg .cs).sel ∧ (prepared.seg .cs).limit = 0xFFFF ∧
    completes (exec (.intImm8 0x21) prepared) = true := by decide +kernel

theorem witness_OddStackShutsDown : (start.setR16 .sp 1).r16 .sp = 1 ∧ (start.setR16 .sp 3).r16 .sp = 3 ∧
    (start.setR16 .sp 5).r16 .sp = 5 ∧ (start.seg .ss).limit = 0xFFFF ∧ start.sys.idtr.limit = 0xFFFF := by decide +kernel

theorem witness_StoreThenLoad : start.storable 0xFFFFFFFF = true ∧ start.storable 0 = true ∧ Memory.wf start.mem = true := by
  decide +kernel

/-- Memory that answers for itself at 2000h, ROM that drops a store at 2002h; the platform will answer 55h, AAh. -/
def mapped : State := { load 0x2002 [0x34, 0x12] start with
  board := { start.board with memMap := [{ base := 0x2000, size := 2, kind := .volatile },
                                         { base := 0x2002, size := 2, kind := .rom .ignored }] }
  answers := [0x55, 0xAA] }

/-- Words of the volatile region, of both and of ROM. -/
theorem witness_StoreThenLoad_platform : mapped.place (.direct 0x2000) = .mem .ds 0x2000 ∧
    mapped.inLimit .ds 0x2001 2 = true ∧ mapped.mayFinish (.movRRm .ax (.direct 0x2000)) = true ∧
    mapped.mayFinish (.movRmR (.direct 0x2002) .ax) = true ∧
    (mapped.wordRead (mapped.linear .ds 0x2000)).map (·.1) = some 0xAA55 ∧
    (mapped.wordRead (mapped.linear .ds 0x2001)).map (·.1) = some 0x3455 ∧
    (mapped.accepted (mapped.linear .ds 0x2001) && mapped.accepted (mapped.linear .ds 0x2001 + 1)) = true ∧
    (mapped.accepted (mapped.linear .ds 0x2003) && mapped.accepted (mapped.linear .ds 0x2003 + 1)) = true := by
  decide +kernel

/-- R75: a store that ROM drops leaves it as it was, and the platform sees it; R86: a volatile word is the answer. -/
theorem test_mov_platform : leads (exec (.movRmR (.direct 0x2002) .sp) mapped)
      (fun s => wordAt s 0x2002 == some 0x1234 && s.trace == [.memWrite 0x2002 0, .memWrite 0x2003 0x80]) = true ∧
    leads (exec (.movRRm .bx (.direct 0x2000)) mapped) (fun s => s.r16 .bx == 0xAA55 && s.answers == []) = true := by
  decide +kernel

/-- A core that is shut down: idle, with INIT latched, with NMI latched. -/
def down : State := { start with run := .shutdown }

theorem witness_ShutdownEnds : down.run = .shutdown ∧ down.pins.inp.reset = false ∧ down.pinsTaken = false ∧
    down.tap.coreNeedsReset = false ∧ down.realMode = true ∧ down.breakpointArmed = false ∧
    down.latch.initPending = false ∧ down.latch.nmiPending = false ∧ down.latch.smiPending = false ∧
    leads (coreStep { down with latch := { down.latch with initPending := true } }) (fun t => t.run == .running) = true ∧
    refuses (coreStep { down with latch := { down.latch with nmiPending := true } }) .shutdownEvent = true := by
  decide +kernel

/-- Nothing answers from 2000h to 2FFFh and at ports 0 to 0Fh. -/
def holes : State := { start with board := { start.board with
  memMap := [{ base := 0x2000, size := 0x1000, kind := .nothing .stuck }]
  portHoles := [{ base := 0, size := 16, write := .stuck }] } }

theorem witness_UnansweredAccessSticksCore : rmOperand (.addRmR (.direct 0x1FFF) .ax) = some (.direct 0x1FFF) ∧
    holes.place (.direct 0x1FFF) = .mem .ds 0x1FFF ∧ holes.inLimit .ds 0x1FFF 2 = true ∧
    holes.pastLimit (.addRmR (.direct 0x1FFF) .ax) = false ∧
    holes.place (.direct 0x1FFF) ∈ holes.readBy (.addRmR (.direct 0x1FFF) .ax) ∧
    (holes.answered (holes.linear .ds 0x1FFF) && holes.answered (holes.linear .ds 0x1FFF + 1)) = false ∧
    holes.readBy (.movMoffsAx 0x1FFF) = [] ∧ rmOperand (.movMoffsAx 0x1FFF) = some (.direct 0x1FFF) ∧
    (holes.accepted (holes.linear .ds 0x1FFF) && holes.accepted (holes.linear .ds 0x1FFF + 1)) = false ∧
    (holes.setR16 .dx 0xFFFF).portsAnswer .inAxDx = false ∧ (holes.setIp 0x2000).ready = true ∧
    holes.phys (holes.linear .cs 0x2000) ∉ holes.dirty ∧ holes.answered (holes.linear .cs 0x2000) = false ∧
    ({ holes with run := .stuck } : State).pinsTaken = false ∧
    ({ holes with run := .stuck } : State).pins.inp.reset = false := by decide +kernel

/-- `prepared` with a few bytes from `base` on that nothing answers and no store is taken at. -/
def gap (base size : Nat) : State :=
  { prepared with board := { prepared.board with memMap := [{ base := base, size := size, kind := .nothing .stuck }] } }

/-- `prepared` with ROM at 2000h, which a store does not complete at. -/
def romAt2000 : State :=
  { prepared with board := { prepared.board with memMap := [{ base := 0x2000, size := 2, kind := .rom .stuck }] } }

theorem witness_UnansweredAccessSticksCore_store :
    romAt2000.target (.andRmR (.direct 0x2000) .ax) = some (.mem .ds 0x2000) ∧ romAt2000.inLimit .ds 0x2000 2 = true ∧
    (romAt2000.readBy (.andRmR (.direct 0x2000) .ax)).all (fun p => (romAt2000.holdsAt p).isSome) = true ∧
    romAt2000.defined (.andRmR (.direct 0x2000) .ax) = true ∧
    romAt2000.pastLimit (.andRmR (.direct 0x2000) .ax) = false ∧
    (romAt2000.accepted (romAt2000.linear .ds 0x2000) && romAt2000.accepted (romAt2000.linear .ds 0x2000 + 1)) = false ∧
    (gap 0x7FFE 2).target (.pushR .sp) = some (.mem .ss 0x7FFE) ∧ (gap 0x7FFE 2).takesSlot 1 = false := by decide +kernel

theorem witness_UnansweredAccessSticksCore_stack :
    (gap 0x8001 1).inLimit .ss ((gap 0x8001 1).r16 .sp) 2 = true ∧
    ((gap 0x8001 1).answered ((gap 0x8001 1).linear .ss ((gap 0x8001 1).r16 .sp)) &&
      (gap 0x8001 1).answered ((gap 0x8001 1).linear .ss ((gap 0x8001 1).r16 .sp) + 1)) = false ∧
    (load 0x8000 [0, 0, 0, 0] (gap 0x8004 2)).holdsAt (.mem .ss 0x8002) = some 0 ∧
    (gap 0x8004 2).slotAbove 2 = 0x8004 ∧ (gap 0x8004 2).inLimit .ss 0x8004 2 = true ∧
    (gap 0x8004 2).answered ((gap 0x8004 2).linear .ss 0x8004) = false ∧
    (gap 0x7FFE 2).pastLimit (.callRel16 0) = false ∧ (gap 0x7FFE 2).r16 .sp - 2 = 0x7FFE ∧
    (gap 0x7FFE 2).inLimit .cs ((gap 0x7FFE 2).nextIp (.callRel16 0) + 0) 1 = true ∧
    (gap 0x7FFE 2).inLimit .ss 0x7FFE 2 = true := by decide +kernel

theorem witness_UnansweredAccessSticksCore_entry : 4 * (0x21 : Byte).toNat + 3 ≤ prepared.sys.idtr.limit.toNat ∧
    (prepared.inLimit .ss (prepared.slotBelow 1) 2 && prepared.inLimit .ss (prepared.slotBelow 2) 2 &&
      prepared.inLimit .ss (prepared.slotBelow 3) 2) = true ∧
    (gap 0x84 4).answered ((gap 0x84 4).vectorAt 0x21) = false ∧
    ((gap 0x86 2).peekWord ((gap 0x86 2).vectorAt 0x21)).isSome = true ∧
    (gap 0x86 2).answered ((gap 0x86 2).vectorAt 0x21 + 2) = false ∧
    ((gap 0x7FFE 2).vector 0x21).isSome = true ∧ (gap 0x7FFC 2).slotFree 1 = true ∧
    (gap 0x7FFC 2).takesSlot 2 = false ∧ (gap 0x7FFA 2).slotFree 2 = true ∧ (gap 0x7FFA 2).takesSlot 3 = false := by
  decide +kernel

theorem witness_UnansweredAccessSticksCore_fetch : (load 0x1FFF [0xA1] (holes.setIp 0x1FFF)).ready = true ∧
    decodeBytes [0xA1] = .more ∧ (∀ (k : Nat) (h : k < [0xA1#8].length),
      (load 0x1FFF [0xA1] (holes.setIp 0x1FFF)).fetches k [0xA1#8][k]) ∧
    holes.answered (holes.linear .cs (0x1FFF + 1)) = false := by
  refine ⟨by decide +kernel, by decide, ?_, by decide +kernel⟩
  intro k h
  obtain rfl : k = 0 := by simpa using h
  exact ⟨by decide +kernel, by decide +kernel, show _ = some 0xA1#8 by decide +kernel⟩

/-- A byte of `dirty_code` that nothing answers: the fault, not the stuck core (log 38). -/
theorem test_stale_before_unanswered : faults (step { holes.setIp 0x2000 with dirty := [0x2000] })
    (.staleFetch 0x2000) = true ∧ leads (step (holes.setIp 0x2000)) (fun s => s.run == .stuck) = true := by decide +kernel

/-- A trap entry whose second store is not taken: the first word stays, SP does not move (R366, log 41). -/
theorem test_entry_sticks_halfway : leads (exec (.intImm8 0x21) (gap 0x7FFC 2))
    (fun s => s.run == .stuck && s.r16 .sp == 0x8000 && wordAt s 0x7FFE == some 0x0002 && s.ip == 0x100) = true := by
  decide +kernel

theorem witness_A20MaskFoldsAddresses : ({ start with latch := Latches.reset true } : State).latch.a20Mask = true ∧
    start.latch.a20Mask = false := by decide +kernel

theorem witness_TapInstructionsComeIntoForce : start.board.ir.wf = true ∧
    decodeIr start.board.ir [false, false, true, false, false] = none := by decide +kernel

/-- The eight cells with an instruction in force and a controller state. -/
def tapState (c : TapCtl) (force : Nat) : State :=
  { eightCells with tap := { eightCells.tap with ctl := c, irOut := bitsOf 5 force, bsrOut := [true, false, true, false, false, true, false, true], bsrLoaded := true } }

theorem witness_IrScan : (tapState .captureIr 2).tapHeld = false ∧ (tapState .captureIr 2).board.ir.wf = true ∧
    (tapState .captureIr 2).tap.ctl = .captureIr ∧ (tapState .shiftIr 2).tap.ctl = .shiftIr ∧
    (tapState .exit1Ir 2).tap.ctl = .exit1Ir ∧ (tapState .exit2Ir 2).tap.ctl = .exit2Ir ∧
    ([true, false, true, true] ++ [false]).length = (tapState .captureIr 2).board.ir.len := by decide +kernel

/-- The address bus and a control cell that floats it while it holds 0. -/
def busCells (v : Bool) : State :=
  { eightCells with
    board := { eightCells.board with bsrMap := [.data (.a 3), .control [.a 3] true] }
    tap := { eightCells.tap with irOut := bitsOf 5 0, bsrOut := [true, v], bsrShift := [false, false] } }

theorem witness_PinsUnderTest_bus : (busCells true).tap.irOut = (busCells true).board.ir.extest ∧
    (busCells true).tap.bsrOut.length = (busCells true).board.bsrMap.length ∧
    (busCells true).board.bsrMap[0]? = some (.data (.a 3)) ∧
    (busCells false).board.bsrMap[1]? = some (.control [.a 3] true) ∧ (busCells false).tap.bsrOut[1]? = some false ∧
    (busCells true).partLevel (.a 3) = .high ∧ (busCells false).partLevel (.a 3) = .z := by decide +kernel

theorem witness_PinsUnderTest : (tapState .runTestIdle 3).board.ir.wf = true ∧
    (tapState .runTestIdle 3).tap.irOut = (tapState .runTestIdle 3).board.ir.highz ∧
    (tapState .runTestIdle 0).tap.irOut = (tapState .runTestIdle 0).board.ir.extest ∧
    (tapState .runTestIdle 0).tap.bsrOut.length = (tapState .runTestIdle 0).board.bsrMap.length ∧
    (tapState .runTestIdle 0).board.bsrMap[5]? = some (.data (.out .hlda)) ∧
    (tapState .runTestIdle 0).tap.bsrOut[5]? = some true := by decide +kernel

theorem witness_CoreRefusedWithoutPins : (tapState .runTestIdle 0).pins.inp.reset = false ∧
    (tapState .runTestIdle 0).tap.irOut = (tapState .runTestIdle 0).board.ir.extest ∧
    (tapState .runTestIdle 3).tap.irOut = (tapState .runTestIdle 3).board.ir.highz ∧
    (tapState .runTestIdle 31).tap.irOut ≠ (tapState .runTestIdle 31).board.ir.extest ∧
    (tapState .runTestIdle 31).tap.irOut ≠ (tapState .runTestIdle 31).board.ir.highz ∧
    ({ start with tap := { start.tap with coreNeedsReset := true } } : State).tap.coreNeedsReset = true ∧
    completes (step { tapState .runTestIdle 0 with
      tap := { (tapState .runTestIdle 0).tap with coreNeedsReset := true }, schedule := [.drive .trst true] }) = true ∧
    start.pins.inp.reset = false ∧ completes (perform (.drive .reset true) start) = true := by decide +kernel

theorem witness_FiveOnesResetTap : [false, false, false, false, false].length = 5 ∧
    completes (tapRun true [false, false, false, false, false] (tapState .shiftIr 2)) = true := by decide +kernel

theorem witness_FiveOnesResetTap_held : (tapState .shiftIr 0).tap.ctl ≠ .testLogicReset ∧
    ((tapState .shiftIr 0).pins.inp.set .trst true).trst = true ∧
    ((tapState .shiftIr 0).pins.inp.set .reset true).reset = true ∧
    completes (perform (.drive .trst true) (tapState .shiftIr 0)) = true := by decide +kernel

theorem witness_BoundaryScanCapture : (tapState .captureDr 1).tapHeld = false ∧
    (tapState .captureDr 1).tap.ctl = .captureDr ∧ (tapState .captureDr 1).sel = .bsr ∧
    (tapState .captureDr 1).board.bsrMap[3]? = some (.data (.inp .clk)) ∧
    (tapState .captureDr 1).pinLevel (.inp .clk) = .high ∧ (busCells true).sel = .bsr ∧
    (busCells true).board.bsrMap[1]? = some (.control [.a 3] true) ∧ PinBit.isInput (.out .ads) = false ∧
    (tapState .exit1Dr 1).tap.ctl = .exit1Dr ∧ (tapState .exit2Dr 2).tap.ctl = .exit2Dr := by decide +kernel

theorem witness_BoundaryScanDoesNotInvert : (tapState .shiftDr 1).tapHeld = false ∧ (tapState .shiftDr 1).tap.ctl = .shiftDr ∧
    (tapState .shiftDr 1).sel = .bsr ∧
    [true, false, true, true, false, false, true, false].length = (tapState .shiftDr 1).tap.bsrShift.length ∧
    (tapState .captureDr 1).tapHeld = false ∧ (tapState .captureDr 1).tap.ctl = .captureDr ∧
    (tapState .captureDr 1).sel = .bsr ∧
    ([true, false, true, true, false, false, true] ++ [false]).length = (tapState .captureDr 1).board.bsrMap.length := by decide +kernel

theorem witness_ScanReadsIdOrDelay : (tapState .captureDr 2).tapHeld = false ∧ (tapState .captureDr 2).tap.ctl = .captureDr ∧
    (tapState .captureDr 2).board.ir.wf = true ∧
    (tapState .captureDr 2).tap.irOut = (tapState .captureDr 2).board.ir.idcode ∧ (List.replicate 31 true).length < 32 ∧
    (tapState .captureDr 31).tap.irOut = (tapState .captureDr 31).board.ir.bypass ∧
    (tapState .shiftDr 2).tap.irOut = (tapState .shiftDr 2).board.ir.idcode ∧
    (tapState .shiftDr 31).sel = .br ∧ (tapState .captureDr 31).sel = .br := by decide +kernel

/-- HIGHZ and a code that is none of the five. -/
theorem witness_ScanReadsIdOrDelay_other : (tapState .captureDr 3).tap.irOut = (tapState .captureDr 3).board.ir.highz ∧
    (tapState .captureDr 3).sel = .br ∧ (tapState .captureDr 3).board.ir.wf = true ∧
    (tapState .captureDr 3).tapHeld = false ∧
    decodeIr (tapState .shiftDr 4).board.ir (tapState .shiftDr 4).tap.irOut = none ∧ (tapState .shiftDr 4).sel = .br ∧
    (tapState .shiftDr 4).board.ir.wf = true ∧ (tapState .shiftDr 4).tapHeld = false := by decide +kernel

/-- A step that changes IR.out and one that changes BSR.out. -/
theorem witness_TapOutputsChangeOnlyInUpdate :
    leads (tick .exit1Ir 31 2 true false) (fun t => t.tap.irOut != bitsOf 5 2) = true ∧
    leads (tick .exit1Dr 0 1 true false) (fun t => t.tap.bsrOut != [true, false, true, false, false, true, false, true]) = true ∧
    leads (step { tapState .shiftDr 1 with schedule := [.drive .trst true] }) (fun t => t.tap.irOut != bitsOf 5 1) = true := by
  decide +kernel

theorem witness_TapLeavesCoreAlone :
    completes (perform (.tck (.level true) .unstable [.inp .clk]) eightCells) = true := by decide +kernel

theorem witness_CoreLeavesTapAlone : completes (coreStep (bench [0x40] id)) = true ∧
    completes (coreStep { start with latch := { start.latch with initPending := true } }) = true := by decide +kernel

theorem witness_ResetPinAppliesReset : start.pins.inp.reset = false ∧
    (start.pins.inp.set .reset true |>.set .flush true).reset = true ∧
    (start.pins.inp.set .reset true |>.set .flush true).flush = true := by decide +kernel

/-- RESET asserted, FLUSH# negated, INIT low and high. -/
theorem witness_ResetPinAppliesReset_falling : (start.pins.inp.set .reset true).reset = true ∧
    (start.pins.inp.set .reset true).flush = false ∧ (start.pins.inp.set .reset true).init = false ∧
    (start.pins.inp.set .reset true |>.set .init true).init = true ∧
    completes (perform (.drive .reset false)
      { start with pins := { start.pins with inp := start.pins.inp.set .reset true } }) = true := by decide +kernel

theorem witness_NmiTaken : prepared.run = .running ∧ asleep.run = .halted ∧ prepared.canEnter 2 = true := by decide +kernel

theorem witness_IntrTaken : ({ prepared with answers := [0x20] } : State).canEnter
    (loByte ({ prepared with answers := [0x20] } : State).answer.1) = true := by decide +kernel

/-- A core with an NMI and a FLUSH# request pending. -/
def requested : State := { start with latch := { start.latch with nmiPending := true, flushPending := true } }

theorem witness_OnePendingEventIsTaken : requested.pins.inp.reset = false ∧ requested.pinsTaken = false ∧
    requested.tap.coreNeedsReset = false ∧ requested.realMode = true ∧ requested.breakpointArmed = false ∧
    requested.events = [.nmi, .flush] ∧ down.events = [] ∧
    ({ start with run := .stuck } : State).run = .stuck := by decide +kernel

theorem witness_StopGrantReturns : start.run = .running ∧ asleep.run = .halted ∧
    Event.flush ∈ requested.events ∧ ({ start with run := .stopGrant true } : State).events = [.resume] := by decide +kernel

/-- The start state is sound, and a step of it completes. -/
theorem witness_StepKeepsSound : (bench [0x40] id).Sound ∧ completes (step (bench [0x40] id)) = true :=
  ⟨{ memory := by decide +kernel
     dirty := by decide +kernel
     eip := by decide +kernel
     mode := by decide +kernel
     noBreakpoint := by decide +kernel
     idtr := by decide +kernel
     limits := by intro r; cases r <;> decide +kernel
     board := by decide +kernel
     oneMaster := by decide +kernel
     irShiftLength := by decide +kernel
     irOutLength := by decide +kernel
     shiftLength := by decide +kernel
     outLength := by decide +kernel
     tdo := by decide +kernel
     taken := by decide +kernel }, by decide +kernel⟩

theorem witness_TimeStampNeverFalls : completes (step (bench [0x0F, 0x31] id)) = true ∧
    ∀ rest, (bench [0x0F, 0x31] id).schedule ≠ .drive .reset true :: rest :=
  ⟨by decide +kernel, by intro rest h; cases h⟩

end Sys2Proof.Tests
end

section
/-! PROOFS. The bytes of memory decode to instructions of the core alone (R100). -/

namespace Sys2Proof

/-- Whatever instruction an answer of the decoder names is one of the core, none of the TAP (R100). -/
def Decoded.OfCore (d : Decoded) : Prop := ∀ i rest, d = .instr i rest → Machine.tapInstr i = false

theorem ofCore_instr {i : Instr} (h : Machine.tapInstr i = false) (rest : List Byte) :
    (Decoded.instr i rest).OfCore := by
  intro j more e
  cases e
  exact h

theorem ofCore_refused (n : RefusedEncoding) : (Decoded.refused n).OfCore := fun _ _ e => by cases e

theorem ofCore_takeByte {k : Byte → List Byte → Decoded} (h : ∀ b rest, (k b rest).OfCore) (bs : List Byte) :
    (takeByte bs k).OfCore := by
  cases bs with
  | nil => intro i rest e; cases e
  | cons b rest => exact h b rest

theorem ofCore_takeWord {k : Word → List Byte → Decoded} (h : ∀ w rest, (k w rest).OfCore) (bs : List Byte) :
    (takeWord bs k).OfCore := by
  match bs with
  | [] => intro i rest e; cases e
  | [_] => intro i rest e; cases e
  | lo :: hi :: rest => exact h _ rest

/-- The same of what the `reg` field of ModRM selects. -/
def RegArm.OfCore : RegArm → Prop
  | .refuse _ => True
  | .take k => ∀ rm rest, (k rm rest).OfCore

theorem ofCore_takeModRm {arm : Nat → RegArm} (h : ∀ g, (arm g).OfCore) (bs : List Byte) :
    (takeModRm bs arm).OfCore := by
  refine ofCore_takeByte (fun m rest => ?_) bs
  have hg := h (m.extractLsb' 3 3).toNat
  cases ha : arm (m.extractLsb' 3 3).toNat with
  | refuse n => exact ofCore_refused n
  | take k =>
    rw [ha] at hg
    dsimp only
    split
    · split
      · exact ofCore_takeWord (fun _ _ => hg _ _) _
      · exact hg _ _
    · exact ofCore_takeByte (fun _ _ => hg _ _) _
    · exact ofCore_takeWord (fun _ _ => hg _ _) _
    · exact hg _ _

theorem ofCore_formM {f : Rm → Reg → Instr} (h : ∀ rm r, Machine.tapInstr (f rm r) = false) (bs : List Byte) :
    (formM bs f).OfCore := ofCore_takeModRm (fun _ => by intro _ _; exact ofCore_instr (h _ _) _) bs

theorem ofCore_formSreg {f : Rm → SregField → Instr} (h : ∀ rm r, Machine.tapInstr (f rm r) = false)
    (bs : List Byte) : (formSreg bs f).OfCore :=
  ofCore_takeModRm (fun _ => by intro _ _; exact ofCore_instr (h _ _) _) bs

theorem ofCore_formI8 {f : Byte → Instr} (h : ∀ b, Machine.tapInstr (f b) = false) (bs : List Byte) :
    (formI8 bs f).OfCore := ofCore_takeByte (fun _ _ => ofCore_instr (h _) _) bs

theorem ofCore_formI16 {f : Word → Instr} (h : ∀ w, Machine.tapInstr (f w) = false) (bs : List Byte) :
    (formI16 bs f).OfCore := ofCore_takeWord (fun _ _ => ofCore_instr (h _) _) bs

theorem ofCore_armM {f : Rm → Instr} (h : ∀ rm, Machine.tapInstr (f rm) = false) : (armM f).OfCore :=
  fun _ _ => ofCore_instr (h _) _

theorem ofCore_armMI8 {f : Rm → Byte → Instr} (h : ∀ rm b, Machine.tapInstr (f rm b) = false) :
    (armMI8 f).OfCore := fun _ bs => ofCore_takeByte (fun _ _ => ofCore_instr (h _ _) _) bs

theorem ofCore_armMI16 {f : Rm → Word → Instr} (h : ∀ rm w, Machine.tapInstr (f rm w) = false) :
    (armMI16 f).OfCore := fun _ bs => ofCore_takeWord (fun _ _ => ofCore_instr (h _ _) _) bs

theorem ofCore_group81 (g : Nat) : (group81 g).OfCore := by
  unfold group81; split <;> exact ofCore_armMI16 fun _ _ => rfl

theorem ofCore_group83 (g : Nat) : (group83 g).OfCore := by
  unfold group83; split <;> exact ofCore_armMI8 fun _ _ => rfl

theorem ofCore_groupC1 (g : Nat) : (groupC1 g).OfCore := by
  unfold groupC1; split
  case h_4 => trivial
  all_goals exact ofCore_armMI8 fun _ _ => rfl

theorem ofCore_groupD1 (g : Nat) : (groupD1 g).OfCore := by
  unfold groupD1; split
  case h_4 => trivial
  all_goals exact ofCore_armM fun _ => rfl

theorem ofCore_groupD3 (g : Nat) : (groupD3 g).OfCore := by
  unfold groupD3; split
  case h_4 => trivial
  all_goals exact ofCore_armM fun _ => rfl

theorem ofCore_groupC7 (g : Nat) : (groupC7 g).OfCore := by
  unfold groupC7; split
  · exact ofCore_armMI16 fun _ _ => rfl
  · trivial

theorem ofCore_groupF7 (g : Nat) : (groupF7 g).OfCore := by
  unfold groupF7; split
  case h_1 => exact ofCore_armMI16 fun _ _ => rfl
  case h_2 => trivial
  all_goals exact ofCore_armM fun _ => rfl

theorem ofCore_decodeOpcode (b : Byte) (bs : List Byte) : (decodeOpcode b bs).OfCore := by
  unfold decodeOpcode
  split
  all_goals first
    | exact ofCore_instr rfl _
    | exact ofCore_refused _
    | exact ofCore_formM (fun _ _ => rfl) _
    | exact ofCore_formSreg (fun _ _ => rfl) _
    | exact ofCore_formI8 (fun _ => rfl) _
    | exact ofCore_formI16 (fun _ => rfl) _
    | exact ofCore_takeModRm ofCore_group81 _
    | exact ofCore_takeModRm ofCore_group83 _
    | exact ofCore_takeModRm ofCore_groupC1 _
    | exact ofCore_takeModRm ofCore_groupD1 _
    | exact ofCore_takeModRm ofCore_groupD3 _
    | exact ofCore_takeModRm ofCore_groupC7 _
    | exact ofCore_takeModRm ofCore_groupF7 _
    | exact ofCore_takeWord (fun _ => ofCore_takeWord fun _ _ => ofCore_instr rfl _) _
    | (refine ofCore_takeByte (fun _ _ => ?_) _; split; exact ofCore_instr rfl _; exact ofCore_refused _)

/-- The bytes of memory never decode to an instruction of the TAP (R100). -/
theorem decodeBytes_ofCore (bs : List Byte) : (decodeBytes bs).OfCore := by
  cases bs with
  | nil => intro i rest e; cases e
  | cons b bs => exact ofCore_decodeOpcode b bs

end Sys2Proof
end

section
/-! PROOFS. What the two-operand encodings and the shifts do up to their end, and what the instructions that do not
transfer control have in common. -/

namespace Sys2Proof.Machine

/-! ### Updates that pass each other -/

theorem State.put_drew (s : State) (p : Place) (v : Word) (n : Nat) : (s.drew n).put p v = (s.put p v).drew n := by
  cases p with
  | reg r => cases r <;> rfl
  | mem sg off => rfl

theorem State.flag_put (s : State) (p : Place) (v : Word) (f : Flag) : (s.put p v).flag f = s.flag f :=
  State.flag_of_eflags (by simp) f

theorem State.flag_setR16 (s : State) (r : Reg) (v : Word) (f : Flag) : (s.setR16 r v).flag f = s.flag f :=
  State.flag_of_eflags (by simp) f

theorem State.flag_setR8 (s : State) (r : Reg8) (v : Byte) (f : Flag) : (s.setR8 r v).flag f = s.flag f :=
  State.flag_of_eflags (by simp) f

theorem State.flag_loadSeg (s : State) (r : Sreg) (v : Word) (f : Flag) : (s.loadSeg r v).flag f = s.flag f :=
  State.flag_of_eflags (by simp) f

/-! ### An operand in place -/

/-- A located operand of which a read completes is read with no effect. -/
theorem locate_read {s : State} {rm : Rm} {a : Word} (h : s.holdsAt (s.place rm) = some a) {β : Type}
    (f : Loc → Word → M β) :
    (do let l ← locate rm; let v ← readLoc l; f l v : M β) s = f (s.locOf (s.place rm)) a s := by
  rw [run_bind_ok (by rw [locate_eq, locatePlace_ok (State.inBounds_of_holdsAt h)]), run_bind_ok (readLoc_ok h)]

/-- A located operand of which a write completes is written, whatever free values were taken since it was located. -/
theorem writeLoc_drew {s : State} {p : Place} (v : Word) (n : Nat) (h : s.takes p = true) :
    writeLoc (s.locOf p) v (s.drew n) = .ok ((), (s.put p v).drew n) := by
  rw [writeLoc_later (t := s.drew n) v h rfl rfl rfl, State.put_drew]

/-! ### The two-operand encodings (R281 to R289) -/

/-- The computation each operation stands for. -/
def AluOp.compute : AluOp → Word → Word → M Arith
  | .add => opAdd
  | .or => opOr
  | .adc => opAdc
  | .sbb => opSbb
  | .and => opAnd
  | .sub => opSub
  | .xor => opXor
  | .cmp => opSub
  | .test => opAnd

/-- The read of a source operand. -/
def Source.read : Source → M Word
  | .rm x => readRm x
  | .imm v => immSource v

/-- What every two-operand encoding does between its fetch and its end. -/
def twoOperandBody (o : AluOp) (dst : Rm) (src : Source) : M Unit :=
  if o.writes then do
    let l ← locate dst
    let a ← readLoc l
    let x ← o.compute a (← src.read)
    writeLoc l x.result
    update fun s => s.setArith x
  else do
    let a ← readRm dst
    let x ← o.compute a (← src.read)
    update fun s => s.setArith x

theorem exec_twoOperand {i : Instr} {o : AluOp} {dst : Rm} {src : Source} (h : twoOperand i = some (o, dst, src))
    (s : State) : exec i s = straight i (twoOperandBody o dst src) s := by
  cases i <;> cases h <;> rfl

theorem AluOp.compute_ok (o : AluOp) (a b : Word) (s : State) :
    ∃ x, o.gives (s.flag .cf) a b x ∧ o.compute a b s = .ok (x, s.drew o.free) := by
  cases o
  case add | adc | sub | sbb | cmp => exact ⟨_, rfl, rfl⟩
  case or | and | xor | test => exact ⟨_, ⟨rfl, rfl, rfl, rfl, rfl, rfl⟩, rfl⟩

theorem Source.read_ok {s : State} {src : Source} {b : Word} (h : s.sourceValue src = some b) :
    src.read s = .ok (b, s) := by
  cases src with
  | rm x => exact readRm_ok h
  | imm v => cases h; rfl

/-- A two-operand encoding whose operands meet no obstacle. -/
theorem twoOperandBody_ok {s : State} {o : AluOp} {dst : Rm} {src : Source} {a b : Word}
    (ha : s.holdsAt (s.place dst) = some a) (hb : s.sourceValue src = some b)
    (ht : o.writes = true → s.takes (s.place dst) = true) :
    ∃ x, o.gives (s.flag .cf) a b x ∧ twoOperandBody o dst src s =
      .ok ((), ((if o.writes then s.put (s.place dst) x.result else s).setArith x).drew o.free) := by
  obtain ⟨x, hx, ho⟩ := o.compute_ok a b s
  refine ⟨x, hx, ?_⟩
  cases hw : o.writes with
  | true =>
    rw [twoOperandBody, if_pos hw, locate_read ha, run_bind_ok (Source.read_ok hb), run_bind_ok ho,
      run_bind_ok (writeLoc_drew _ _ (ht hw))]
    rfl
  | false =>
    rw [twoOperandBody, if_neg (by simp [hw]), run_bind_ok (readRm_ok ha), run_bind_ok (Source.read_ok hb),
      run_bind_ok ho]
    rfl

theorem carrying_compute (o : AluOp) (a b : Word) : Carrying (o.compute a b) := by
  cases o
  case add | sub | cmp => exact carrying_pure _
  case adc | sbb => exact carrying_carry _
  case or | and | xor | test => exact carrying_logic _

theorem carrying_source (src : Source) : Carrying src.read := by
  cases src with
  | rm x => exact carrying_readRm x
  | imm v => exact carrying_pure v

theorem carrying_twoOperandBody (o : AluOp) (dst : Rm) (src : Source) : Carrying (twoOperandBody o dst src) := by
  refine carrying_ite ?_ ?_
  · exact carrying_bind (carrying_locate _) fun _ => carrying_bind (carrying_readLoc _) fun _ =>
      carrying_bind (carrying_source _) fun _ => carrying_bind (carrying_compute _ _ _) fun _ =>
      carrying_bind (carrying_writeLoc _ _) fun _ => carrying_update fun s => carries_setArith s _
  · exact carrying_bind (carrying_readRm _) fun _ => carrying_bind (carrying_source _) fun _ =>
      carrying_bind (carrying_compute _ _ _) fun _ => carrying_update fun s => carries_setArith s _

/-! ### The shifts (R298 to R300) -/

/-- The computation each shift stands for. -/
def ShiftOp.compute : ShiftOp → Word → Nat → M Arith
  | .shl => opShl
  | .shr => opShr
  | .sar => opSar

/-- What every shift does between its fetch and its end. -/
def shiftBody (o : ShiftOp) (rm : Rm) (count : State → Byte) : M Unit := do
  let l ← locate rm
  let a ← readLoc l
  let cnt ← view fun s => maskCount (count s)
  if cnt = 0 then writeLoc l a
  else do
    let x ← o.compute a cnt
    writeLoc l x.result
    update fun s => s.setArith x

theorem maskCount_one : maskCount 1 = 1 := by decide

theorem exec_shift {i : Instr} {o : ShiftOp} {rm : Rm} {count : State → Byte}
    (h : shiftForm i = some (o, rm, count)) (s : State) : exec i s = straight i (shiftBody o rm count) s := by
  cases i <;> cases h
  case shlRm1 | shrRm1 | sarRm1 => simp only [shiftBody, maskCount_one]; rfl
  all_goals rfl

theorem ShiftOp.compute_ok (o : ShiftOp) (a : Word) (cnt : Nat) (s : State) :
    ∃ x, o.compute a cnt s = .ok (x, s.drew o.free) := by
  cases o <;> exact ⟨_, rfl⟩

/-- A shift whose operand meets no obstacle: a count of 0 writes the operand back. -/
theorem shiftBody_ok {s : State} {o : ShiftOp} {rm : Rm} {count : State → Byte} {a : Word}
    (ha : s.holdsAt (s.place rm) = some a) (ht : s.takes (s.place rm) = true) :
    (maskCount (count s) = 0 → shiftBody o rm count s = .ok ((), s.put (s.place rm) a)) ∧
    (maskCount (count s) ≠ 0 → ∃ x, o.compute a (maskCount (count s)) s = .ok (x, s.drew o.free) ∧
      shiftBody o rm count s = .ok ((), ((s.put (s.place rm) x.result).setArith x).drew o.free)) := by
  constructor
  · intro h0
    rw [shiftBody, locate_read ha, run_view_bind, if_pos h0, writeLoc_ok a ht]
  · intro h0
    obtain ⟨x, hx⟩ := o.compute_ok a (maskCount (count s)) s
    refine ⟨x, hx, ?_⟩
    rw [shiftBody, locate_read ha, run_view_bind, if_neg h0, run_bind_ok hx, run_bind_ok (writeLoc_drew _ _ ht)]
    rfl

theorem carrying_shiftBody (o : ShiftOp) (rm : Rm) (count : State → Byte) : Carrying (shiftBody o rm count) := by
  have hop : ∀ a n, Carrying (o.compute a n) := by
    cases o
    · exact carrying_opShl
    · exact carrying_opShr
    · exact carrying_opSar
  exact carrying_bind (carrying_locate _) fun _ => carrying_bind (carrying_readLoc _) fun _ =>
    carrying_bind (carrying_view _) fun _ => carrying_ite (carrying_writeLoc _ _)
      (carrying_bind (hop _ _) fun _ => carrying_bind (carrying_writeLoc _ _) fun _ =>
        carrying_update fun s => carries_setArith s _)

/-! ### Instructions that do not transfer control, as one kind -/

/-- No operand keeps the instruction from its end: what `State.runs` asks for besides room and a clear TF. -/
def State.unhindered (s : State) (i : Instr) : Bool :=
  s.defined i && s.portsAnswer i && (s.readBy i).all (fun p => (s.holdsAt p).isSome) && (s.target i).all s.takes

theorem State.runs_iff (s : State) (i : Instr) :
    s.runs i = true ↔ straightLine i = true ∧ s.mayFinish i = true ∧ s.unhindered i = true := by
  cases h : s.target i <;>
    simp only [State.runs, State.unhindered, h, Option.all, Bool.and_eq_true, and_assoc]

/-- Whether the operands are in the way does not depend on the flags. -/
theorem State.unhindered_setFlag (s : State) (b : Bool) (i : Instr) :
    (s.setFlag .tf b).unhindered i = s.unhindered i := rfl

theorem State.unhindered_iff (s : State) (i : Instr) : s.unhindered i = true ↔
    s.defined i = true ∧ s.portsAnswer i = true ∧ (∀ p ∈ s.readBy i, ∃ v, s.holdsAt p = some v) ∧
      ∀ p, s.target i = some p → s.takes p = true := by
  simp only [State.unhindered, Bool.and_eq_true, List.all_eq_true, Option.isSome_iff_exists, Option.all_eq_true,
    and_assoc]

/-- `body` is what the instruction does between its fetch and its end at `next_ip`; with no operand in its way it
gets there, and it leaves TF alone. -/
structure Straight (i : Instr) (body : M Shadow) : Prop where
  meaning : ∀ s, exec i s = straightShadow i body s
  carrying : Carrying body
  ends : ∀ s, s.unhindered i = true → ∃ h t, body s = .ok (h, t) ∧ t.flag .tf = s.flag .tf

/-- The same of a body that sets no shadow. -/
theorem Straight.of_unit {i : Instr} {body : M Unit} (hm : ∀ s, exec i s = straight i body s) (hc : Carrying body)
    (he : ∀ s, s.unhindered i = true → ∃ t, body s = .ok ((), t) ∧ t.flag .tf = s.flag .tf) :
    Straight i (do body; return .none) where
  meaning := hm
  carrying := carrying_bind hc fun _ => carrying_pure _
  ends s h := by
    obtain ⟨t, ht, hf⟩ := he s h
    exact ⟨.none, t, by rw [run_bind_ok ht]; rfl, hf⟩

theorem straight_twoOperand {i : Instr} {o : AluOp} {dst : Rm} {src : Source}
    (h : twoOperand i = some (o, dst, src)) : ∃ body, Straight i body := by
  refine ⟨_, .of_unit (exec_twoOperand h) (carrying_twoOperandBody o dst src) fun s hs => ?_⟩
  obtain ⟨-, -, hread, htake⟩ := (s.unhindered_iff i).1 hs
  have hdst : s.place dst ∈ s.readBy i := by simp only [State.readBy, h]; cases src <;> simp
  obtain ⟨a, ha⟩ := hread _ hdst
  have hb : ∃ b, s.sourceValue src = some b := by
    cases src with
    | rm x => exact hread _ (by simp [State.readBy, h])
    | imm v => exact ⟨v, rfl⟩
  obtain ⟨b, hb⟩ := hb
  have hw : o.writes = true → s.takes (s.place dst) = true := fun hw => htake _ (by simp [State.target, h, hw])
  obtain ⟨x, -, hx⟩ := twoOperandBody_ok ha hb hw
  refine ⟨_, hx, ?_⟩
  cases o.writes with
  | false => rfl
  | true => exact State.flag_put s (s.place dst) x.result .tf

theorem straight_shift {i : Instr} {o : ShiftOp} {rm : Rm} {count : State → Byte} (h2 : twoOperand i = none)
    (h : shiftForm i = some (o, rm, count)) : ∃ body, Straight i body := by
  refine ⟨_, .of_unit (exec_shift h) (carrying_shiftBody o rm count) fun s hs => ?_⟩
  obtain ⟨-, -, hread, htake⟩ := (s.unhindered_iff i).1 hs
  obtain ⟨a, ha⟩ := hread (s.place rm) (by simp [State.readBy, h2, h])
  obtain ⟨hzero, hsome⟩ := shiftBody_ok (o := o) (count := count) ha (htake _ (by simp [State.target, h2, h]))
  by_cases h0 : maskCount (count s) = 0
  · exact ⟨_, hzero h0, State.flag_put s (s.place rm) a .tf⟩
  · obtain ⟨x, -, hx⟩ := hsome h0
    exact ⟨_, hx, State.flag_put s (s.place rm) x.result .tf⟩

end Sys2Proof.Machine
end

section
/-! PROOFS. The other instructions that do not transfer control, each up to its end. -/

namespace Sys2Proof.Machine

/-! ### The platform's answers and the ports (R76) -/

theorem takeAnswer_eq (s : State) : takeAnswer s = .ok s.answer := by
  rcases run_takeAnswer s with ⟨v, rest, e, r⟩ | ⟨e, r⟩ <;> rw [r, State.answer, e]

theorem State.flag_answer (s : State) (f : Flag) : s.answer.2.flag f = s.flag f := by
  unfold State.answer
  cases s.answers <;> rfl

theorem portsFrom_one (port : Word) : portsFrom port 1 = [port] := by simp [portsFrom, List.range_succ]

theorem portsFrom_two (port : Word) : portsFrom port 2 = [port, port + 1] := by simp [portsFrom, List.range_succ]

/-- A port read that is answered takes one answer of the platform. -/
theorem ioRead_ok {s : State} {port : Word} {n : Nat} (h : (portsFrom port n).all s.board.portAnswers = true) :
    ∃ w e, ioRead port n s = .ok (w, s.answer.2.see e) := by
  rw [ioRead, run_need_bind _ h, run_bind_ok (takeAnswer_eq s)]
  exact ⟨_, _, rfl⟩

/-- A port write that completes is seen by the platform. -/
theorem ioWrite_ok {s : State} {port : Word} {n : Nat} (v : Word)
    (h : (portsFrom port n).all s.board.portAccepts = true) : ∃ e, ioWrite port n v s = .ok ((), s.see e) := by
  rw [ioWrite, run_need_bind _ h]
  exact ⟨_, rfl⟩

theorem carrying_readPortByte (port : Word) : Carrying (readPortByte port) :=
  carrying_bind (carrying_ioRead _ _) fun _ => carrying_update fun s => carries_setR8 s _ _

theorem carrying_writePortByte (port : Word) : Carrying (writePortByte port) :=
  carrying_bind (carrying_view _) fun _ => carrying_ioWrite _ _ _

theorem readPortByte_ends {s : State} {port : Word} (h : s.board.portAnswers port = true) :
    ∃ t, readPortByte port s = .ok ((), t) ∧ t.flag .tf = s.flag .tf := by
  obtain ⟨w, e, hr⟩ := ioRead_ok (s := s) (n := 1) (by rw [portsFrom_one]; simpa using h)
  refine ⟨_, by rw [readPortByte, run_bind_ok hr, run_update], ?_⟩
  rw [State.flag_setR8]
  exact State.flag_answer s .tf

theorem writePortByte_ends {s : State} {port : Word} (h : s.board.portAccepts port = true) :
    ∃ t, writePortByte port s = .ok ((), t) ∧ t.flag .tf = s.flag .tf := by
  obtain ⟨e, hw⟩ := ioWrite_ok (s := s) (n := 1) ((s.r8 .al).setWidth 16) (by rw [portsFrom_one]; simpa using h)
  exact ⟨s.see e, by rw [writePortByte, run_view_bind, hw], rfl⟩

/-- IN and OUT are hindered by nothing but a port of theirs that is not answered (R74 to R76). -/
theorem State.unhindered_ports {s : State} {i : Instr} (h : s.unhindered i = true) :
    (∀ p ∈ s.portsRead i, s.board.portAnswers p = true) ∧ ∀ p ∈ s.portsWritten i, s.board.portAccepts p = true := by
  obtain ⟨-, h, -, -⟩ := (s.unhindered_iff i).1 h
  simpa only [State.portsAnswer, Bool.and_eq_true, List.all_eq_true] using h

theorem straight_inAlImm8 (port : Byte) : ∃ body, Straight (.inAlImm8 port) body :=
  ⟨_, .of_unit (fun _ => rfl) (carrying_readPortByte (portOf port)) fun _ hs =>
    readPortByte_ends ((State.unhindered_ports hs).1 _ (by simp [State.portsRead, portOf]))⟩

theorem straight_inAlDx : ∃ body, Straight .inAlDx body := by
  refine ⟨_, .of_unit (fun _ => rfl) (carrying_bind (carrying_view _) fun _ => carrying_readPortByte _) fun s hs => ?_⟩
  rw [regSource, run_view_bind]
  exact readPortByte_ends ((State.unhindered_ports hs).1 _ (by simp [State.portsRead]))

theorem straight_inAxDx : ∃ body, Straight .inAxDx body := by
  refine ⟨_, .of_unit (fun _ => rfl) (carrying_bind (carrying_view _) fun _ => carrying_bind (carrying_ioRead _ 2)
    fun v => carrying_update fun s => carries_setR16 s .ax v) fun s hs => ?_⟩
  obtain ⟨w, e, hr⟩ := ioRead_ok (s := s) (port := s.r16 .dx) (n := 2) (by
    rw [portsFrom_two, List.all_eq_true]
    exact (State.unhindered_ports hs).1)
  refine ⟨_, by rw [regSource, run_view_bind, run_bind_ok hr, run_update], ?_⟩
  rw [State.flag_setR16]
  exact State.flag_answer s .tf

theorem straight_outImm8Al (port : Byte) : ∃ body, Straight (.outImm8Al port) body :=
  ⟨_, .of_unit (fun _ => rfl) (carrying_writePortByte (portOf port)) fun _ hs =>
    writePortByte_ends ((State.unhindered_ports hs).2 _ (by simp [State.portsWritten, portOf]))⟩

theorem straight_outDxAl : ∃ body, Straight .outDxAl body := by
  refine ⟨_, .of_unit (fun _ => rfl) (carrying_bind (carrying_view _) fun _ => carrying_writePortByte _) fun s hs => ?_⟩
  rw [regSource, run_view_bind]
  exact writePortByte_ends ((State.unhindered_ports hs).2 _ (by simp [State.portsWritten]))

theorem straight_outDxAx : ∃ body, Straight .outDxAx body := by
  refine ⟨_, .of_unit (fun _ => rfl) (carrying_bind (carrying_view _) fun _ => carrying_bind (carrying_view _)
    fun v => carrying_ioWrite _ 2 v) fun s hs => ?_⟩
  obtain ⟨e, hw⟩ := ioWrite_ok (s := s) (port := s.r16 .dx) (n := 2) (s.r16 .ax) (by
    rw [portsFrom_two, List.all_eq_true]
    exact (State.unhindered_ports hs).2)
  exact ⟨s.see e, by rw [regSource, run_view_bind, regSource, run_view_bind, hw], rfl⟩

/-! ### Operands -/

theorem State.unhindered_defined {s : State} {i : Instr} (h : s.unhindered i = true) : s.defined i = true :=
  ((s.unhindered_iff i).1 h).1

theorem State.unhindered_read {s : State} {i : Instr} {p : Place} (h : s.unhindered i = true)
    (hp : s.readBy i = [p]) : ∃ v, s.holdsAt p = some v := by
  obtain ⟨-, -, hread, -⟩ := (s.unhindered_iff i).1 h
  exact hread p (by simp [hp])

theorem State.unhindered_write {s : State} {i : Instr} {p : Place} (h : s.unhindered i = true)
    (hp : s.target i = some p) : s.takes p = true := by
  obtain ⟨-, -, -, htake⟩ := (s.unhindered_iff i).1 h
  exact htake p hp

/-- An instruction that nothing but its end can stop. -/
theorem straight_update {i : Instr} {f : State → State} (hm : ∀ s, exec i s = straight i (update f) s)
    (hc : ∀ s, Carries s (f s)) (hf : ∀ s, (f s).flag .tf = s.flag .tf) : ∃ body, Straight i body :=
  ⟨_, .of_unit hm (carrying_update hc) fun s _ => ⟨f s, rfl, hf s⟩⟩

/-- An instruction that changes a register by the value of an operand in memory or a register. -/
theorem straight_load {i : Instr} {rm : Rm} {f : Word → State → State}
    (hm : ∀ s, exec i s = straight i (do let v ← readRm rm; update (f v)) s)
    (hr : ∀ s : State, s.readBy i = [s.place rm]) (hc : ∀ v s, Carries s (f v s))
    (hf : ∀ v s, (f v s).flag .tf = s.flag .tf) : ∃ body, Straight i body := by
  refine ⟨_, .of_unit hm (carrying_bind (carrying_readRm rm) fun v => carrying_update (hc v)) fun s hs => ?_⟩
  obtain ⟨v, hv⟩ := State.unhindered_read hs (hr s)
  exact ⟨_, by rw [run_bind_ok (readRm_ok hv), run_update], hf v s⟩

/-- An instruction that stores a value of its own to an operand in memory or a register. -/
theorem straight_store {i : Instr} {rm : Rm} {g : State → Word}
    (hm : ∀ s, exec i s = straight i (do let l ← locate rm; writeLoc l (← view g)) s)
    (ht : ∀ s : State, s.target i = some (s.place rm)) : ∃ body, Straight i body := by
  refine ⟨_, .of_unit hm (carrying_bind (carrying_locate rm) fun l => carrying_bind (carrying_view g) fun v =>
    carrying_writeLoc l v) fun s hs => ?_⟩
  have h := State.unhindered_write hs (ht s)
  refine ⟨_, ?_, State.flag_put s (s.place rm) (g s) .tf⟩
  rw [run_bind_ok (by rw [locate_eq, locatePlace_ok (State.inBounds_of_takes h)]), run_view_bind, writeLoc_ok _ h]

/-! ### The other instructions that do not transfer control -/

theorem straight_incR (r : Reg) : ∃ body, Straight (.incR r) body :=
  straight_update (f := fun s =>
      (s.setR16 r (addFlags (s.r16 r) 1 false).result).setArith { addFlags (s.r16 r) 1 false with cf := s.flag .cf })
    (fun _ => rfl) (fun s => (carries_setR16 s _ _).trans (carries_setArith _ _)) fun s => State.flag_setR16 s r _ .tf

theorem straight_decR (r : Reg) : ∃ body, Straight (.decR r) body :=
  straight_update (f := fun s =>
      (s.setR16 r (subFlags (s.r16 r) 1 false).result).setArith { subFlags (s.r16 r) 1 false with cf := s.flag .cf })
    (fun _ => rfl) (fun s => (carries_setR16 s _ _).trans (carries_setArith _ _)) fun s => State.flag_setR16 s r _ .tf

theorem straight_pushR (r : Reg) : ∃ body, Straight (.pushR r) body := by
  refine ⟨_, .of_unit (fun _ => rfl) (carrying_bind (carrying_view _) fun v => carrying_push16 v) fun s hs => ?_⟩
  have h : s.slotFree 1 = true := State.unhindered_write hs rfl
  refine ⟨_, by rw [regSource, run_view_bind, push16_ok _ h], ?_⟩
  rw [State.flag_setR16]
  rfl

theorem straight_popR (r : Reg) : ∃ body, Straight (.popR r) body := by
  refine ⟨_, .of_unit (fun _ => rfl) (carrying_bind carrying_pop16 fun v => carrying_update fun s =>
    carries_setR16 s r v) fun s hs => ?_⟩
  obtain ⟨v, hv⟩ := State.unhindered_read hs rfl
  refine ⟨_, by rw [run_bind_ok (pop16_ok hv), run_update], ?_⟩
  rw [State.flag_setR16, State.flag_setR16]

theorem straight_movRmR (rm : Rm) (r : Reg) : ∃ body, Straight (.movRmR rm r) body :=
  straight_store (fun _ => rfl) fun _ => rfl

theorem straight_movRRm (r : Reg) (rm : Rm) : ∃ body, Straight (.movRRm r rm) body :=
  straight_load (fun _ => rfl) (fun _ => rfl) (fun v s => carries_setR16 s r v) fun v s => State.flag_setR16 s r v .tf

theorem straight_movRmSreg (rm : Rm) (f : SregField) : ∃ body, Straight (.movRmSreg rm f) body := by
  cases f
  case seg r => exact straight_store (fun _ => rfl) fun _ => rfl
  case six | seven =>
    exact ⟨_, .of_unit (fun _ => rfl) (carrying_raise .ud) fun s hs => by cases State.unhindered_defined hs⟩

theorem straight_nop : ∃ body, Straight .nop body :=
  straight_update (f := id) (fun _ => rfl) (fun s => .rfl' s) fun _ => rfl

theorem straight_movAxMoffs (off : Word) : ∃ body, Straight (.movAxMoffs off) body := by
  refine ⟨_, .of_unit (fun _ => rfl) (carrying_bind (carrying_locatePlace _) fun l => carrying_bind
    (carrying_readLoc l) fun v => carrying_update fun s => carries_setR16 s .ax v) fun s hs => ?_⟩
  obtain ⟨v, hv⟩ := State.unhindered_read hs rfl
  refine ⟨s.setR16 .ax v, ?_, State.flag_setR16 s .ax v .tf⟩
  rw [run_bind_ok (locatePlace_ok (State.inBounds_of_holdsAt hv)), run_bind_ok (readLoc_ok hv), run_update]

theorem straight_movMoffsAx (off : Word) : ∃ body, Straight (.movMoffsAx off) body :=
  straight_store (rm := .direct off) (g := fun s => s.r16 .ax) (fun _ => rfl) fun _ => rfl

theorem straight_movR8Imm8 (r : Reg8) (v : Byte) : ∃ body, Straight (.movR8Imm8 r v) body :=
  straight_update (fun _ => rfl) (fun s => carries_setR8 s r v) fun s => State.flag_setR8 s r v .tf

theorem straight_movRImm16 (r : Reg) (v : Word) : ∃ body, Straight (.movRImm16 r v) body :=
  straight_update (fun _ => rfl) (fun s => carries_setR16 s r v) fun s => State.flag_setR16 s r v .tf

theorem straight_movRmImm16 (rm : Rm) (v : Word) : ∃ body, Straight (.movRmImm16 rm v) body :=
  straight_store (g := fun _ => v) (fun _ => rfl) fun _ => rfl

theorem straight_setFlag {i : Instr} {f : Flag} {b : State → Bool} (hf : f ≠ .tf)
    (hm : ∀ s, exec i s = straight i (update fun s => s.setFlag f (b s)) s) : ∃ body, Straight i body :=
  straight_update hm (fun s => carries_setFlag s f (b s)) fun s => by rw [State.flag_setFlag, if_neg hf.symm]

theorem straight_hlt : ∃ body, Straight .hlt body :=
  straight_update (fun _ => rfl) (fun s => carries_run s .halted) fun _ => rfl

theorem straight_sti : ∃ body, Straight .sti body :=
  ⟨_, fun _ => rfl, carrying_bind (carrying_view shadowOfSti) fun _ => carrying_bind
    (carrying_update fun s => carries_setFlag s .intf true) fun _ => carrying_pure _, fun _ _ => ⟨_, _, rfl, rfl⟩⟩

theorem straight_notRm (rm : Rm) : ∃ body, Straight (.notRm rm) body := by
  refine ⟨_, .of_unit (fun _ => rfl) (carrying_bind (carrying_locate rm) fun l => carrying_bind (carrying_readLoc l)
    fun a => carrying_writeLoc l (a ^^^ 0xFFFF#16)) fun s hs => ?_⟩
  obtain ⟨a, ha⟩ := State.unhindered_read hs rfl
  refine ⟨_, ?_, State.flag_put s (s.place rm) (a ^^^ 0xFFFF#16) .tf⟩
  rw [locate_read ha, writeLoc_ok _ (State.unhindered_write hs rfl)]

theorem straight_negRm (rm : Rm) : ∃ body, Straight (.negRm rm) body := by
  refine ⟨_, .of_unit (fun _ => rfl) (carrying_bind (carrying_locate rm) fun l => carrying_bind (carrying_readLoc l)
    fun a => carrying_bind (carrying_writeLoc l (subFlags 0 a false).result) fun _ =>
      carrying_update fun s => carries_setArith s (subFlags 0 a false)) fun s hs => ?_⟩
  obtain ⟨a, ha⟩ := State.unhindered_read hs rfl
  refine ⟨(s.put (s.place rm) (subFlags 0 a false).result).setArith (subFlags 0 a false), ?_,
    State.flag_put s (s.place rm) (subFlags 0 a false).result .tf⟩
  rw [locate_read ha, run_bind_ok (writeLoc_ok _ (State.unhindered_write hs rfl)), run_update]

theorem State.flag_setProduct (s : State) (p : Dword) (f : Flag) : (s.setProduct p).flag f = s.flag f :=
  State.flag_of_eflags (by simp) f

theorem carries_setProduct (s : State) (p : Dword) : Carries s (s.setProduct p) :=
  (carries_setR16 s _ _).trans (carries_setR16 _ _ _)

/-- MUL and IMUL take four free values for the flags they leave open (R294, R295). -/
theorem setMulFlags_ok (wide : Bool) (s : State) :
    ∃ x : Arith, x.cf = wide ∧ x.ovf = wide ∧ setMulFlags wide s = .ok ((), (s.setArith x).drew 4) :=
  ⟨_, rfl, rfl, rfl⟩

/-- DIV and IDIV take six free values for their flags (R296, R297). -/
theorem setDivFlags_ok (s : State) : ∃ x : Arith, setDivFlags s = .ok ((), (s.setArith x).drew 6) := ⟨_, rfl⟩

theorem straight_mulRm (rm : Rm) : ∃ body, Straight (.mulRm rm) body := by
  refine ⟨_, .of_unit (fun _ => rfl) (carrying_bind (carrying_readRm rm) fun b => carrying_bind (carrying_view _)
    fun a => carrying_bind (carrying_update fun s => carries_setProduct s _) fun _ => carrying_setMulFlags _)
    fun s hs => ?_⟩
  obtain ⟨b, hb⟩ := State.unhindered_read hs rfl
  let p := zext32 (s.r16 .ax) * zext32 b
  obtain ⟨x, -, -, hx⟩ := setMulFlags_ok (decide (p.extractLsb' 16 16 ≠ 0#16)) (s.setProduct p)
  refine ⟨((s.setProduct p).setArith x).drew 4, ?_, State.flag_setProduct s p .tf⟩
  rw [run_bind_ok (readRm_ok hb)]
  exact hx

theorem straight_imulRm (rm : Rm) : ∃ body, Straight (.imulRm rm) body := by
  refine ⟨_, .of_unit (fun _ => rfl) (carrying_bind (carrying_readRm rm) fun b => carrying_bind (carrying_view _)
    fun a => carrying_bind (carrying_update fun s => carries_setProduct s _) fun _ => carrying_setMulFlags _)
    fun s hs => ?_⟩
  obtain ⟨b, hb⟩ := State.unhindered_read hs rfl
  let p := (s.r16 .ax).signExtend 32 * b.signExtend 32
  obtain ⟨x, -, -, hx⟩ := setMulFlags_ok (decide (p ≠ (low16 p).signExtend 32)) (s.setProduct p)
  refine ⟨((s.setProduct p).setArith x).drew 4, ?_, State.flag_setProduct s p .tf⟩
  rw [run_bind_ok (readRm_ok hb)]
  exact hx

/-- DIV and IDIV, `quotient` being what the dividend and the divisor give. -/
theorem straight_divide {i : Instr} {rm : Rm} {quotient : Dword → Word → Option (Word × Word)}
    (hm : ∀ s, exec i s = straight i (do
      let v ← readRm rm
      putQuotient (quotient (← view fun s => s.dividend) v)) s)
    (hr : ∀ s : State, s.readBy i = [s.place rm])
    (hd : ∀ (s : State) d, s.holdsAt (s.place rm) = some d → s.defined i = true → (quotient s.dividend d).isSome = true) :
    ∃ body, Straight i body := by
  refine ⟨_, .of_unit hm (carrying_bind (carrying_readRm rm) fun v => carrying_bind (carrying_view _) fun n =>
    carrying_putQuotient _) fun s hs => ?_⟩
  obtain ⟨d, h⟩ := State.unhindered_read hs (hr s)
  obtain ⟨⟨q, r⟩, hq⟩ := Option.isSome_iff_exists.1 (hd s d h (State.unhindered_defined hs))
  obtain ⟨x, hx⟩ := setDivFlags_ok ((s.setR16 .ax q).setR16 .dx r)
  refine ⟨_, by rw [run_bind_ok (readRm_ok h), run_view_bind, hq]; exact hx, ?_⟩
  exact (State.flag_setR16 _ .dx r .tf).trans (State.flag_setR16 s .ax q .tf)

theorem straight_divRm (rm : Rm) : ∃ body, Straight (.divRm rm) body :=
  straight_divide (fun _ => rfl) (fun _ => rfl) fun s d h hd => by simpa only [State.defined, h] using hd

theorem straight_idivRm (rm : Rm) : ∃ body, Straight (.idivRm rm) body :=
  straight_divide (fun _ => rfl) (fun _ => rfl) fun s d h hd => by simpa only [State.defined, h] using hd

/-- A read of the time stamp counter is not below the last one (R48). -/
theorem tscAfter_ge (last free : BitVec 64) : last.toNat ≤ (tscAfter last free).toNat := by
  have hl := last.isLt
  have hm := Nat.mod_lt free.toNat (show 0 < 2 ^ 64 - last.toNat by omega)
  rw [tscAfter, BitVec.toNat_ofNat, Nat.mod_eq_of_lt (by omega)]
  omega

theorem carries_setTsc {s : State} {t : BitVec 64} (h : s.tsc.toNat ≤ t.toNat) : Carries s { s with tsc := t } :=
  ⟨rfl, rfl, rfl, rfl, rfl, rfl, rfl, rfl, rfl, rfl, fun _ => rfl, id, id, id, h⟩

/-- The state RDTSC leaves before its end, `t` being the value it gives (R335). -/
def State.readTsc (s : State) (t : BitVec 64) : State :=
  { ((s.drew 1).setR32 .ax (t.extractLsb' 0 32)).setR32 .dx (t.extractLsb' 32 32) with tsc := t }

/-- RDTSC up to its end. -/
def rdtscBody : M Unit := do
  let free ← drawWide
  let t ← view fun s => tscAfter s.tsc free
  update fun s => { ((s.setR32 .ax (t.extractLsb' 0 32)).setR32 .dx (t.extractLsb' 32 32)) with tsc := t }

theorem rdtscBody_ok (s : State) : rdtscBody s = .ok ((), s.readTsc (tscAfter s.tsc (Config.draw s.draws))) := rfl

theorem carrying_rdtscBody : Carrying rdtscBody := fun s =>
  ((carries_drew s 1).trans ((carries_setR32 _ .ax _).trans (carries_setR32 _ .dx _))).trans
    (carries_setTsc (tscAfter_ge s.tsc _))

theorem straight_rdtsc : ∃ body, Straight .rdtsc body :=
  ⟨_, .of_unit (fun _ => rfl) carrying_rdtscBody fun s _ => ⟨_, rdtscBody_ok s, rfl⟩⟩

/-- Which shadow a load of SS leaves, and whether it takes a free value for it (R277). -/
theorem shadowOfLoad_ok (r : Sreg) (s : State) :
    (r ≠ .ss → shadowOfLoad r s = .ok (.none, s)) ∧
    (r = .ss → s.latch.shadow = .none → shadowOfLoad r s = .ok (.movSs, s)) ∧
    (r = .ss → s.latch.shadow ≠ .none → ∃ h, (h = .spent ∨ h = .movSs) ∧ shadowOfLoad r s = .ok (h, s.drew 1)) := by
  refine ⟨fun hr => ?_, fun hr h0 => ?_, fun hr h0 => ?_⟩
  · rw [shadowOfLoad, if_neg hr, run_pure]
  · rw [shadowOfLoad, if_pos hr, run_view_bind, if_pos h0, run_pure]
  · rw [shadowOfLoad, if_pos hr, run_view_bind, if_neg h0, run_drawBit_bind]
    cases drawBitAt s.draws with
    | true => exact ⟨.movSs, .inr rfl, rfl⟩
    | false => exact ⟨.spent, .inl rfl, rfl⟩

theorem shadowOfLoad_ends (r : Sreg) (s : State) :
    ∃ h t, shadowOfLoad r s = .ok (h, t) ∧ t.flag .tf = s.flag .tf := by
  obtain ⟨hother, hfirst, hlater⟩ := shadowOfLoad_ok r s
  by_cases hr : r = .ss
  · by_cases h0 : s.latch.shadow = .none
    · exact ⟨_, _, hfirst hr h0, rfl⟩
    · obtain ⟨h, -, e⟩ := hlater hr h0
      exact ⟨h, _, e, rfl⟩
  · exact ⟨_, _, hother hr, rfl⟩

/-- What MOV to a segment register does between its fetch and its end (R277). -/
def loadSegBody (r : Sreg) (rm : Rm) : M Shadow := do
  let v ← readRm rm
  update fun s => s.loadSeg r v
  shadowOfLoad r

theorem loadSegBody_eq {s : State} {rm : Rm} {v : Word} (r : Sreg) (h : s.holdsAt (s.place rm) = some v) :
    loadSegBody r rm s = shadowOfLoad r (s.loadSeg r v) := by
  rw [loadSegBody, run_bind_ok (readRm_ok h), run_update_bind]

theorem exec_movSregRm {f : SregField} {r : Sreg} (h : loadTarget f = some r) (rm : Rm) (s : State) :
    exec (.movSregRm f rm) s = straightShadow (.movSregRm f rm) (loadSegBody r rm) s := by
  change execMovSregRm f rm s = _
  rw [execMovSregRm, h]
  rfl

theorem exec_movSregRm_invalid {f : SregField} (h : loadTarget f = none) (rm : Rm) (s : State) :
    exec (.movSregRm f rm) s = straightShadow (.movSregRm f rm) (raise .ud) s := by
  change execMovSregRm f rm s = _
  rw [execMovSregRm, h]

theorem straight_movSregRm (f : SregField) (rm : Rm) : ∃ body, Straight (.movSregRm f rm) body := by
  cases hf : loadTarget f with
  | none =>
    refine ⟨_, exec_movSregRm_invalid hf rm, carrying_raise .ud, fun s hs => ?_⟩
    have hd := State.unhindered_defined hs
    cases f
    case seg r => cases r <;> first | (cases hf; done) | cases hd
    case six | seven => exact nomatch hd
  | some r =>
    refine ⟨_, exec_movSregRm hf rm, carrying_bind (carrying_readRm rm) fun v => carrying_bind
      (carrying_update fun s => carries_loadSeg s r v) fun _ => carrying_shadowOfLoad r, fun s hs => ?_⟩
    obtain ⟨v, hv⟩ := State.unhindered_read hs rfl
    obtain ⟨h, t, e, ht⟩ := shadowOfLoad_ends r (s.loadSeg r v)
    exact ⟨h, t, (loadSegBody_eq r hv).trans e, ht.trans (State.flag_loadSeg s r v .tf)⟩

/-- Every instruction that does not transfer control has a body that meets `Straight`. -/
theorem straight_of_straightLine {i : Instr} (h : straightLine i = true) : ∃ body, Straight i body := by
  cases h2 : twoOperand i with
  | some p => exact straight_twoOperand h2
  | none =>
  cases hs : shiftForm i with
  | some p => exact straight_shift h2 hs
  | none =>
  cases i
  case incR r => exact straight_incR r
  case decR r => exact straight_decR r
  case pushR r => exact straight_pushR r
  case popR r => exact straight_popR r
  case movRmR rm r => exact straight_movRmR rm r
  case movRRm r rm => exact straight_movRRm r rm
  case movRmSreg rm f => exact straight_movRmSreg rm f
  case movSregRm f rm => exact straight_movSregRm f rm
  case nop => exact straight_nop
  case movAxMoffs off => exact straight_movAxMoffs off
  case movMoffsAx off => exact straight_movMoffsAx off
  case movR8Imm8 r v => exact straight_movR8Imm8 r v
  case movRImm16 r v => exact straight_movRImm16 r v
  case movRmImm16 rm v => exact straight_movRmImm16 rm v
  case inAlImm8 port => exact straight_inAlImm8 port
  case outImm8Al port => exact straight_outImm8Al port
  case inAlDx => exact straight_inAlDx
  case inAxDx => exact straight_inAxDx
  case outDxAl => exact straight_outDxAl
  case outDxAx => exact straight_outDxAx
  case hlt => exact straight_hlt
  case notRm rm => exact straight_notRm rm
  case negRm rm => exact straight_negRm rm
  case mulRm rm => exact straight_mulRm rm
  case imulRm rm => exact straight_imulRm rm
  case divRm rm => exact straight_divRm rm
  case idivRm rm => exact straight_idivRm rm
  case cmc | clc | stc | cli | cld | std => exact straight_setFlag (by decide) fun _ => rfl
  case sti => exact straight_sti
  case rdtsc => exact straight_rdtsc
  all_goals first | (cases h; done) | (cases h2; done) | cases hs

end Sys2Proof.Machine
end

section
/-! PROOFS. Transfers and the ends of instructions (R265, R305 to R312, R364): O7, O20, O21. -/

namespace Sys2Proof.Machine

/-! ### Ends of a transfer -/

theorem complete_trap {s : State} (h : s.flag .tf = true) : complete s = .refused .debugTrap := by
  rw [complete, if_pos h]

theorem complete_next {s : State} (h : s.flag .tf = false) : complete s = .next s := by
  rw [complete, if_neg (by simp [h])]

theorem transfer_follow {i : Instr} {body : M Flow} {s t : State} {f : Flow} (h : body s = .ok (f, t)) :
    transfer i body s = follow i s f t := by
  rw [transfer, h, conclude_ok]

theorem follow_goto {i : Instr} {s t : State} {target : Word} (h : t.flag .tf = false) :
    follow i s (.goto target) t = .next (t.jump target) := complete_next (s := t.jump target) h

theorem follow_fall {i : Instr} {s t : State} (h : t.flag .tf = false) (hp : s.pastLimit i = false)
    (he : t.eip = s.eip) : follow i s .next t = .next (t.atEnd i) := by
  rw [follow, if_neg (by simp [hp]), complete_next (by exact h), State.atEnd, State.nextIp_of_eip he]

/-- Falling through to a `next_ip` past FFFFh is a fault (R41, R108). -/
theorem follow_past {i : Instr} {s t : State} (hp : s.pastLimit i = true) :
    follow i s .next t = .fault .fetchPastLimit := by
  rw [follow, if_pos hp]

/-- A transfer that ends with TF set is refused (R364). -/
theorem follow_trap {i : Instr} {s t : State} {f : Flow} (h : t.flag .tf = true)
    (hp : f = .next → s.pastLimit i = false) : follow i s f t = .refused .debugTrap := by
  cases f with
  | next => rw [follow, if_neg (by simp [hp rfl])]; exact complete_trap (by exact h)
  | goto target => exact complete_trap (s := t.jump target) h

/-! ### Jumps, CALL, RET and LOOP (R305 to R312) -/

theorem relJump_ok {i : Instr} {disp : Word} {s : State} (h : s.inLimit .cs (s.nextIp i + disp) 1 = true) :
    relJump i disp s = .ok (.goto (s.nextIp i + disp), s) := by
  rw [relJump, run_view_bind, relTarget, run_bind_ok (checkTarget_ok h), run_pure]

theorem State.not_holds_l (s : State) : (!s.holds .l) = (s.flag .sf == s.flag .ovf) := by
  change (!(s.flag .sf ^^ s.flag .ovf)) = _
  cases s.flag .sf <;> cases s.flag .ovf <;> rfl

theorem State.not_holds_le (s : State) : (!s.holds .le) = (!s.flag .zf && s.flag .sf == s.flag .ovf) :=
  (Bool.not_or (s.flag .zf) (s.holds .l)).trans (by rw [State.not_holds_l])

/-- Every conditional jump goes by the condition the table names (R114, R309). -/
theorem exec_jcc {i : Instr} {rel : Byte} {cond : State → Bool} (h : jccForm i = some (rel, cond)) (s : State) :
    exec i s = jumpIf i rel cond s := by
  cases i <;> cases h
  case ja => exact congrArg (jumpIf _ rel · s) (funext fun t => Bool.not_or (t.flag .cf) (t.flag .zf))
  case jge => exact congrArg (jumpIf _ rel · s) (funext State.not_holds_l)
  case jg => exact congrArg (jumpIf _ rel · s) (funext State.not_holds_le)
  all_goals rfl

theorem exec_jcc_taken {i : Instr} {rel : Byte} {cond : State → Bool} {s : State}
    (h : jccForm i = some (rel, cond)) (hc : cond s = true)
    (ht : s.inLimit .cs (s.nextIp i + sext16 rel) 1 = true) :
    exec i s = follow i s (.goto (s.nextIp i + sext16 rel)) s := by
  rw [exec_jcc h, jumpIf]
  exact transfer_follow (by rw [run_view_bind, if_pos hc, relJump_ok ht])

theorem exec_jcc_notTaken {i : Instr} {rel : Byte} {cond : State → Bool} {s : State}
    (h : jccForm i = some (rel, cond)) (hc : cond s = false) : exec i s = follow i s .next s := by
  rw [exec_jcc h, jumpIf]
  exact transfer_follow (by rw [run_view_bind, if_neg (by simp [hc]), run_pure])

theorem exec_jmpRel8 {rel : Byte} {s : State}
    (h : s.inLimit .cs (s.nextIp (.jmpRel8 rel) + sext16 rel) 1 = true) :
    exec (.jmpRel8 rel) s = follow (.jmpRel8 rel) s (.goto (s.nextIp (.jmpRel8 rel) + sext16 rel)) s :=
  transfer_follow (relJump_ok h)

theorem exec_jmpRel16 {rel : Word} {s : State} (h : s.inLimit .cs (s.nextIp (.jmpRel16 rel) + rel) 1 = true) :
    exec (.jmpRel16 rel) s = follow (.jmpRel16 rel) s (.goto (s.nextIp (.jmpRel16 rel) + rel)) s :=
  transfer_follow (relJump_ok h)

theorem exec_jmpFar {seg off : Word} {s : State} (h : s.inLimit .cs off 1 = true) :
    exec (.jmpFar seg off) s = follow (.jmpFar seg off) s (.goto off) (s.loadSeg .cs seg) :=
  transfer_follow (by rw [run_bind_ok (checkTarget_ok h)]; rfl)

theorem exec_callRel16 {rel : Word} {s : State} (hp : s.pastLimit (.callRel16 rel) = false)
    (hs : s.slotFree 1 = true) (ht : s.inLimit .cs (s.nextIp (.callRel16 rel) + rel) 1 = true) :
    exec (.callRel16 rel) s = follow (.callRel16 rel) s (.goto (s.nextIp (.callRel16 rel) + rel))
      ((s.pokeWord (s.linear .ss (s.slotBelow 1)) (s.nextIp (.callRel16 rel))).setR16 .sp (s.slotBelow 1)) :=
  transfer_follow (by
    rw [run_bind_ok (savedIp_ok hp), run_view_bind, relTarget, run_bind_ok (checkTarget_ok ht),
      run_bind_ok (push16_ok _ hs), run_pure])

theorem State.slotAbove_zero (s : State) : s.slotAbove 0 = s.r16 .sp := BitVec.add_zero _

theorem exec_ret {t : Word} {s : State} (h : s.holdsAt (.mem .ss (s.r16 .sp)) = some t)
    (ht : s.inLimit .cs t 1 = true) :
    exec .ret s = follow .ret s (.goto t) (s.setR16 .sp (s.slotAbove 1)) :=
  transfer_follow (by
    rw [run_bind_ok (peek16_ok (by rwa [State.slotAbove_zero])), run_bind_ok (checkTarget_ok ht)]
    rfl)

/-- CX counts down to 0 from 1 alone (R312). -/
theorem word_sub_one_eq_zero (c : Word) : c - 1 = 0 ↔ c = 1 := sub_eq_zero

theorem exec_loop_notTaken {rel : Byte} {s : State} (h : s.r16 .cx = 1) :
    exec (.loop rel) s = follow (.loop rel) s .next (s.setR16 .cx 0) :=
  transfer_follow (by
    rw [run_view_bind, if_pos ((word_sub_one_eq_zero _).2 h), (word_sub_one_eq_zero _).2 h]
    rfl)

theorem exec_loop_taken {rel : Byte} {s : State} (h : s.r16 .cx ≠ 1)
    (ht : s.inLimit .cs (s.nextIp (.loop rel) + sext16 rel) 1 = true) :
    exec (.loop rel) s = follow (.loop rel) s (.goto (s.nextIp (.loop rel) + sext16 rel))
      (s.setR16 .cx (s.r16 .cx - 1)) :=
  transfer_follow (by
    rw [run_view_bind, if_neg (mt (word_sub_one_eq_zero _).1 h), run_view_bind, relTarget,
      run_bind_ok (checkTarget_ok ht)]
    rfl)

theorem State.goes_jcc {i : Instr} {rel : Byte} {cond : State → Bool} (h : jccForm i = some (rel, cond)) (s : State) :
    s.goes i = if cond s then s.inLimit .cs (s.nextIp i + sext16 rel) 1 else !s.pastLimit i := by
  unfold State.goes
  rw [h]

theorem State.goes_callRel16 (s : State) (rel : Word) : s.goes (.callRel16 rel) =
    (!s.pastLimit (.callRel16 rel) && s.slotFree 1 && s.inLimit .cs (s.nextIp (.callRel16 rel) + rel) 1) := rfl

theorem State.goes_ret {s : State} (h : s.goes .ret = true) :
    ∃ t, s.holdsAt (.mem .ss (s.r16 .sp)) = some t ∧ s.inLimit .cs t 1 = true := by
  change (match s.holdsAt (.mem .ss (s.r16 .sp)) with
    | some t => s.inLimit .cs t 1
    | none => false) = true at h
  cases ht : s.holdsAt (.mem .ss (s.r16 .sp)) with
  | none => rw [ht] at h; cases h
  | some t => exact ⟨t, rfl, by rwa [ht] at h⟩

theorem State.goes_loop (s : State) (rel : Byte) : s.goes (.loop rel) =
    if s.r16 .cx = 1 then !s.pastLimit (.loop rel)
    else s.inLimit .cs (s.nextIp (.loop rel) + sext16 rel) 1 := rfl

/-- A jump, CALL, RET or LOOP that nothing stops reaches its end with TF as it was. -/
theorem exec_goes {i : Instr} {s : State} (h : s.goes i = true) : ∃ f t, exec i s = follow i s f t ∧
    t.flag .tf = s.flag .tf ∧ (f = .next → s.pastLimit i = false) := by
  cases hj : jccForm i with
  | some p =>
    obtain ⟨rel, cond⟩ := p
    rw [State.goes_jcc hj] at h
    cases hc : cond s with
    | true => exact ⟨_, _, exec_jcc_taken hj hc (by simpa only [hc, if_true] using h), rfl, nofun⟩
    | false => exact ⟨_, _, exec_jcc_notTaken hj hc, rfl, fun _ => by simpa [hc] using h⟩
  | none =>
    cases i
    case jmpRel8 rel => exact ⟨_, _, exec_jmpRel8 h, rfl, nofun⟩
    case jmpRel16 rel => exact ⟨_, _, exec_jmpRel16 h, rfl, nofun⟩
    case jmpFar seg off => exact ⟨_, _, exec_jmpFar h, rfl, nofun⟩
    case callRel16 rel =>
      simp only [State.goes_callRel16, Bool.and_eq_true, Bool.not_eq_true'] at h
      obtain ⟨⟨hp, hs⟩, ht⟩ := h
      exact ⟨_, _, exec_callRel16 hp hs ht, State.flag_setR16 _ .sp _ .tf, nofun⟩
    case ret =>
      obtain ⟨t, hv, ht⟩ := State.goes_ret h
      exact ⟨_, _, exec_ret hv ht, State.flag_setR16 s .sp _ .tf, nofun⟩
    case loop rel =>
      rw [State.goes_loop] at h
      by_cases hc : s.r16 .cx = 1
      · refine ⟨_, _, exec_loop_notTaken hc, State.flag_setR16 s .cx 0 .tf, fun _ => ?_⟩
        simpa [hc] using h
      · exact ⟨_, _, exec_loop_taken hc (by rwa [if_neg hc] at h), State.flag_setR16 s .cx _ .tf, nofun⟩
    all_goals first | cases h | cases hj

/-! ### Ends of an instruction that does not transfer control -/

/-- An instruction that does not transfer control faults where `next_ip` passes FFFFh (R108). -/
theorem exec_straight_past {i : Instr} {s : State} (h : straightLine i = true) (hp : s.pastLimit i = true) :
    exec i s = .fault .fetchPastLimit := by
  obtain ⟨body, hb⟩ := straight_of_straightLine h
  rw [hb.meaning, straightShadow, if_pos hp]

/-- One that would run to its end with TF clear is refused with TF set (R364). -/
theorem exec_straight_trap {i : Instr} {s : State} (ht : s.flag .tf = true)
    (h : (s.setFlag .tf false).runs i = true) : exec i s = .refused .debugTrap := by
  obtain ⟨hline, hfinish, hops⟩ := (State.runs_iff _ i).1 h
  obtain ⟨body, hb⟩ := straight_of_straightLine hline
  have hp : s.pastLimit i = false := by
    simp only [State.mayFinish, Bool.and_eq_true, Bool.not_eq_true'] at hfinish
    exact hfinish.1
  rw [State.unhindered_setFlag] at hops
  obtain ⟨sh, t, hok, hflag⟩ := hb.ends s hops
  rw [hb.meaning, straightShadow, if_neg (by simp [hp]), hok, conclude_ok]
  exact complete_trap (s := (t.setIp (s.nextIp i)).setShadow sh) (hflag.trans ht)

/-- A Jcc or LOOP not taken faults where `next_ip` passes FFFFh (R41, R108). -/
theorem exec_notTaken_past {i : Instr} {s : State} (h : s.notTaken i = true) (hp : s.pastLimit i = true) :
    exec i s = .fault .fetchPastLimit := by
  cases hj : jccForm i with
  | some p =>
    obtain ⟨rel, cond⟩ := p
    simp only [State.notTaken, hj, Bool.not_eq_true'] at h
    rw [exec_jcc_notTaken hj h, follow_past hp]
  | none =>
    cases i
    case loop rel => rw [exec_loop_notTaken (of_decide_eq_true h), follow_past hp]
    all_goals first | cases h | cases hj

theorem exec_callRel16_past {rel : Word} {s : State} (hp : s.pastLimit (.callRel16 rel) = true) :
    exec (.callRel16 rel) s = .fault .fetchPastLimit := by
  change transfer _ _ s = _
  rw [transfer, run_bind_error (savedIp_past hp), conclude_fault]

theorem softwareInterrupt_past {i : Instr} {n : Byte} {s : State} (hp : s.pastLimit i = true) :
    softwareInterrupt i n s = .fault .fetchPastLimit := by
  rw [softwareInterrupt, savedIp_past hp, conclude_fault]

/-- Settles O7: by what each kind of instruction does up to its end, and what its end does. -/
theorem fallThroughStops : Obligations.FallThroughStops := by
  refine ⟨fun i s hp h => ?_, fun i s ht h => exec_straight_trap ht h, fun i s ht h => ?_⟩
  · obtain h | h | ⟨rel, rfl⟩ | ⟨n, rfl⟩ | rfl := h
    · exact exec_straight_past h hp
    · exact exec_notTaken_past h hp
    · exact exec_callRel16_past hp
    · exact softwareInterrupt_past hp
    · exact softwareInterrupt_past hp
  · obtain ⟨f, t, e, hflag, hnext⟩ := exec_goes h
    rw [e, follow_trap (hflag.trans ht) hnext]

/-- Settles O20: each form is the body of its transfer, which goes to the target or falls through. -/
theorem jumpResult : Obligations.JumpResult := by
  refine ⟨fun s rel8 rel16 seg off ht => ⟨fun h => ?_, fun h => ?_, fun h => ?_⟩,
    fun i rel cond s hj ht => ⟨fun hc h => ?_, fun hc hp => ?_⟩⟩
  · rw [exec_jmpRel8 h, follow_goto ht]
  · rw [exec_jmpRel16 h, follow_goto ht]
  · rw [exec_jmpFar h, follow_goto (by exact ht)]
  · rw [exec_jcc_taken hj hc h, follow_goto ht]
  · rw [exec_jcc_notTaken hj hc, follow_fall ht hp rfl]

/-- Settles O21: LOOP falls through where CX was 1 and is taken elsewhere. -/
theorem loopResult : Obligations.LoopResult := by
  refine fun rel s => ⟨rfl, fun ht => ⟨fun hc hp => ?_, fun hc h => ?_⟩⟩
  · rw [exec_loop_notTaken hc, follow_fall (by rwa [State.flag_setR16]) hp (by simp)]
  · rw [exec_loop_taken hc h, follow_goto (by rwa [State.flag_setR16])]

end Sys2Proof.Machine
end

section
/-! PROOFS. What every step of the core carries: O50. -/

namespace Sys2Proof.Machine

/-! ### What every step of the core carries -/

theorem leads_softwareInterrupt (i : Instr) (n : Byte) (s : State) : Leads s (softwareInterrupt i n s) :=
  leads_conclude (carrying_savedIp i) s (fun rip t h => (leads_deliver n false rip t).from h)
    fun _ t h => (leads_deliver _ _ _ t).from h

theorem leads_jumpIf (i : Instr) (rel : Byte) (taken : State → Bool) (s : State) : Leads s (jumpIf i rel taken s) :=
  leads_transfer (carrying_bind (carrying_view taken) fun _ =>
    carrying_ite (carrying_relJump _ _) (carrying_pure _)) s

theorem leads_jmpFar (seg off : Word) (s : State) : Leads s (execJmpFar seg off s) :=
  leads_transfer (carrying_bind (carrying_checkTarget off) fun _ => carrying_bind
    (carrying_update fun s => carries_loadSeg s .cs seg) fun _ => carrying_pure _) s

theorem leads_callRel16 (rel : Word) (s : State) : Leads s (execCallRel16 rel s) :=
  leads_transfer (carrying_bind (carrying_savedIp _) fun rip => carrying_bind (carrying_view _) fun t =>
    carrying_bind (carrying_checkTarget t) fun _ => carrying_bind (carrying_push16 rip) fun _ => carrying_pure _) s

theorem leads_ret (s : State) : Leads s (execRet s) :=
  leads_transfer (carrying_bind carrying_peek16 fun t => carrying_bind (carrying_checkTarget t) fun _ =>
    carrying_bind (carrying_dropStack 1) fun _ => carrying_pure _) s

theorem leads_loop (rel : Byte) (s : State) : Leads s (execLoop rel s) :=
  leads_transfer (carrying_bind (carrying_view _) fun c => carrying_ite
    (carrying_bind (carrying_update fun s => carries_setR16 s .cx c) fun _ => carrying_pure _)
    (carrying_bind (carrying_view _) fun t => carrying_bind (carrying_checkTarget t) fun _ =>
      carrying_bind (carrying_update fun s => carries_setR16 s .cx c) fun _ => carrying_pure _)) s

theorem leads_iret (s : State) : Leads s (execIret s) :=
  leads_transfer (carrying_bind carrying_trapReturn fun _ => carrying_pure _) s

/-- Every instruction of the core carries. -/
theorem leads_exec {i : Instr} (h : tapInstr i = false) (s : State) : Leads s (exec i s) := by
  cases hl : straightLine i with
  | true =>
    obtain ⟨body, hb⟩ := straight_of_straightLine hl
    rw [hb.meaning]
    exact leads_straightShadow hb.carrying s
  | false =>
  cases hj : jccForm i with
  | some p =>
    rw [exec_jcc hj]
    exact leads_jumpIf _ _ _ s
  | none =>
    cases i
    case jmpRel8 rel => exact leads_transfer (carrying_relJump _ _) s
    case jmpRel16 rel => exact leads_transfer (carrying_relJump _ _) s
    case jmpFar seg off => exact leads_jmpFar seg off s
    case callRel16 rel => exact leads_callRel16 rel s
    case ret => exact leads_ret s
    case loop rel => exact leads_loop rel s
    case intImm8 n => exact leads_softwareInterrupt _ n s
    case int3 => exact leads_softwareInterrupt _ 3 s
    case iret => exact leads_iret s
    all_goals first | (cases h; done) | (cases hl; done) | cases hj

theorem carrying_fetchByte (k : Nat) : Carrying (fetchByte k) := by
  refine carrying_bind (carrying_view _) fun ip => carrying_ite (carrying_stopFault _) ?_
  refine carrying_bind (carrying_view _) fun lin => carrying_bind (carrying_view _) fun a => ?_
  exact carrying_bind (carrying_view _) fun _ => carrying_ite (carrying_stopFault _) (carrying_readByte lin)

theorem carrying_fetchFrom (fuel : Nat) (got : List Byte) : Carrying (fetchFrom fuel got) := by
  induction fuel generalizing got with
  | zero => exact carrying_stopFault _
  | succ fuel ih =>
    unfold fetchFrom
    cases decodeBytes got with
    | instr i rest => exact carrying_pure i
    | refused n => exact carrying_stopRefused _
    | more => exact carrying_bind (carrying_fetchByte _) fun b => ih _

theorem carrying_fetch : Carrying fetch := carrying_fetchFrom 7 []

/-- A fetch answers with an instruction of the core (R100). -/
theorem fetchFrom_ofCore (fuel : Nat) (got : List Byte) {s t : State} {i : Instr}
    (h : fetchFrom fuel got s = .ok (i, t)) : tapInstr i = false := by
  induction fuel generalizing got s with
  | zero => cases h
  | succ fuel ih =>
    rw [fetchFrom] at h
    cases hd : decodeBytes got with
    | instr j rest =>
      rw [hd] at h
      cases h
      exact decodeBytes_ofCore got _ _ hd
    | refused n =>
      rw [hd] at h
      cases h
    | more =>
      simp only [hd, run_bind] at h
      cases hb : fetchByte got.length s with
      | ok p => rw [hb] at h; exact ih _ h
      | error e => rw [hb] at h; cases h

theorem leads_fault (s : State) (f : Fault) : Leads s (.fault f) := fun _ h => by cases h

theorem leads_refused (s : State) (r : Refusal) : Leads s (.refused r) := fun _ h => by cases h

/-- `leads_conclude` where what follows an answer depends on the answer. -/
theorem leads_conclude_answer {α : Type} {m : M α} (hm : Carrying m) (s : State)
    {ok : α → State → Host.Outcome State Fault Refusal} {raised : Exc → State → Host.Outcome State Fault Refusal}
    (hok : ∀ a t, m s = .ok (a, t) → Leads t (ok a t)) (hr : ∀ e t, Leads t (raised e t)) :
    Leads s (conclude (m s) ok raised) := by
  have hc := hm s
  cases hk : m s with
  | ok p =>
    rw [hk] at hc
    exact (hok p.1 p.2 hk).from hc
  | error e =>
    rw [hk] at hc
    cases e with
    | raise e t => exact (hr e t).from hc
    | stuck t => exact leads_next (hc.trans (carries_stick t))
    | fault f => exact leads_fault s f
    | refused r => exact leads_refused s r

theorem leads_executeNext (s : State) : Leads s (executeNext s) :=
  leads_conclude_answer carrying_fetch s (fun _ t h => leads_exec (fetchFrom_ofCore 7 [] h) t)
    fun _ t => leads_deliver _ _ _ t

/-! ### Pin events -/

theorem carrying_acknowledge : Carrying acknowledge :=
  carrying_bind carrying_takeAnswer fun _ => carrying_bind (carrying_update fun s => carries_see s _)
    fun _ => carrying_pure _

/-- Whatever event the core takes but INIT, it carries. -/
theorem leads_takeEvent {e : Event} (h : e ≠ .init) (s : State) : Leads s (takeEvent e s) := by
  cases e
  case init => exact absurd rfl h
  case nmi =>
    refine (leads_deliver 2 false s.ip _).from ?_
    exact ⟨rfl, rfl, rfl, rfl, rfl, rfl, rfl, rfl, rfl, rfl, fun _ => rfl, id, id, id, Nat.le_refl _⟩
  case intr =>
    exact leads_conclude carrying_acknowledge s (fun n t k => (leads_deliver n false s.ip t).from k)
      fun _ t k => (leads_deliver _ _ _ t).from k
  case flush =>
    exact leads_next ⟨rfl, rfl, rfl, rfl, rfl, rfl, rfl, rfl, rfl, rfl, fun _ => rfl, id, id, id, Nat.le_refl _⟩
  case stpclk => exact leads_next ((carries_run s _).trans (carries_see _ _))
  case resume =>
    rw [takeEvent]
    split
    · exact leads_next (carries_run s _)
    · exact leads_next (carries_run s _)
  case smi | lateNmi | lateSmi => exact leads_refused s _

/-- Picking one of several pending events takes at most a free value. -/
theorem pickEvent_ok (e : Event) (es : List Event) (s : State) : ∃ f n, pickEvent e es s = .ok (f, s.drew n) := by
  cases es with
  | nil => exact ⟨e, 0, rfl⟩
  | cons a es => exact ⟨_, 1, rfl⟩

/-- An event taken either carries or is INIT. -/
theorem serve_cases {e : Event} {es : List Event} {s t : State} (h : serve e es s = .next t) :
    Carries s t ∨ ∃ n, t = (s.drew n).applyInit := by
  obtain ⟨f, n, hf⟩ := pickEvent_ok e es s
  rw [serve, hf, conclude_ok] at h
  by_cases hi : f = .init
  · subst hi
    cases h
    exact .inr ⟨n, rfl⟩
  · exact .inl ((carries_drew s n).trans (leads_takeEvent hi _ t h))

theorem settle_next {o : Host.Outcome State Fault Refusal} {t : State} (h : settle o = .next t) :
    ∃ u, o = .next u ∧ t = u.refreshOut := by
  cases o with
  | next u => cases h; exact ⟨u, rfl, rfl⟩
  | fault f => cases h
  | refused r => cases h

/-- All that a step of the core can do: nothing, what carries, or INIT; after the last two the outputs take new
levels (R20). -/
theorem coreStep_cases {s t : State} (h : coreStep s = .next t) :
    t = s ∨ ∃ u, t = u.refreshOut ∧ (Carries s u ∨ ∃ n, u = (s.drew n).applyInit) := by
  unfold coreStep at h
  split at h
  · cases h; exact .inl rfl
  split at h
  · cases h
  split at h
  · cases h
  split at h
  · cases h
  split at h
  · cases h
  split at h
  · obtain ⟨u, hu, rfl⟩ := settle_next h
    exact .inr ⟨u, rfl, serve_cases hu⟩
  · split at h
    · obtain ⟨u, hu, rfl⟩ := settle_next h
      exact .inr ⟨u, rfl, .inl (leads_executeNext s u hu)⟩
    all_goals cases h; exact .inl rfl

/-- Settles O50: nothing a step of the core can do, INIT among it, touches these. -/
theorem coreLeavesTapAlone : Obligations.CoreLeavesTapAlone := by
  intro s t h
  obtain rfl | ⟨u, rfl, hc | ⟨n, rfl⟩⟩ := coreStep_cases h
  · exact ⟨rfl, rfl, rfl, rfl, rfl, rfl, rfl, rfl, rfl⟩
  · have hpins := hc.pins
    exact ⟨hc.tap, by rw [← hpins]; rfl, by rw [← hpins]; rfl, hc.board, hc.fpu, hc.msr, hc.smm,
      hc.bfRatio, hc.schedule⟩
  · exact ⟨rfl, rfl, rfl, rfl, rfl, rfl, rfl, rfl, rfl⟩

end Sys2Proof.Machine
end

section
/-! PROOFS. Every step keeps the machine sound: O59, O60. -/

namespace Sys2Proof.Machine

/-! ### What D16 gives of the parameters -/

theorem TapCodes.wf_lengths {p : TapCodes} (h : p.wf = true) :
    p.capture.length = p.len ∧ p.idcode.length = p.len ∧ 2 ≤ p.len := by
  simp only [TapCodes.wf, TapCodes.all, List.all_cons, Bool.and_eq_true, decide_eq_true_eq] at h
  obtain ⟨⟨⟨⟨hc, -, -, hi, -⟩, -⟩, -⟩, h2⟩ := h
  have : (p.capture.take 2).length = 2 := by rw [h2]; rfl
  rw [List.length_take] at this
  exact ⟨hc, hi, by omega⟩

theorem TapCodes.wf_distinct {p : TapCodes} (h : p.wf = true) : p.all.Nodup := by
  simp only [TapCodes.wf, Bool.and_eq_true, decide_eq_true_eq] at h
  obtain ⟨⟨⟨-, hd⟩, -⟩, -⟩ := h
  exact hd

theorem TapCodes.idcode_ne {p : TapCodes} (h : p.wf = true) : p.idcode ≠ p.extest ∧ p.idcode ≠ p.highz := by
  have hd := p.wf_distinct h
  simp only [TapCodes.all, List.nodup_cons, List.mem_cons, not_or] at hd
  obtain ⟨⟨-, hie, -⟩, -, ⟨hih, -⟩, -⟩ := hd
  exact ⟨fun h => hie h.symm, hih⟩

theorem Board.wf_parts {b : Board} (h : b.wf = true) : b.ir.wf = true ∧ 0 < b.bsrMap.length := by
  simp only [Board.wf, Bool.and_eq_true, Bool.not_eq_true', List.isEmpty_eq_false_iff] at h
  obtain ⟨⟨hir, hmap⟩, -⟩ := h
  exact ⟨hir, List.length_pos_iff.2 hmap⟩

theorem State.pinsTaken_iff (s : State) :
    s.pinsTaken = true ↔ s.tap.irOut = s.board.ir.extest ∨ s.tap.irOut = s.board.ir.highz := decide_eq_true_iff

/-- IDCODE leaves the core its pins. -/
theorem State.not_pinsTaken_idcode {s : State} (hw : s.board.ir.wf = true) (h : s.tap.irOut = s.board.ir.idcode) :
    s.pinsTaken ≠ true := by
  obtain ⟨he, hz⟩ := s.board.ir.idcode_ne hw
  rw [Ne, State.pinsTaken_iff, h, not_or]
  exact ⟨he, hz⟩

/-! ### Steps of the core -/

theorem State.Sound.of_carries {s t : State} (hs : s.Sound) (h : Carries s t) : t.Sound where
  memory := h.memory hs.memory
  dirty := h.dirty hs.dirty
  eip := h.eip hs.eip
  mode := by rw [State.realMode, h.sys, h.smm]; exact hs.mode
  noBreakpoint := by rw [State.breakpointArmed, h.sys]; exact hs.noBreakpoint
  idtr := by rw [h.sys]; exact hs.idtr
  limits r := (h.limit r).trans (hs.limits r)
  board := by rw [h.board]; exact hs.board
  oneMaster := by rw [h.pins]; exact hs.oneMaster
  irShiftLength := by rw [h.tap, h.board]; exact hs.irShiftLength
  irOutLength := by rw [h.tap, h.board]; exact hs.irOutLength
  shiftLength := by rw [h.tap, h.board]; exact hs.shiftLength
  outLength := by rw [h.tap, h.board]; exact hs.outLength
  tdo := by rw [h.tap]; exact hs.tdo
  taken := by rw [State.pinsTaken, h.tap, h.board]; exact hs.taken

theorem State.Sound.refreshOut {s : State} (hs : s.Sound) : s.refreshOut.Sound := { hs with }

theorem Sregs.reset_limits (s : State) (h : s.sreg = Sregs.reset) (r : Sreg) : (s.seg r).limit = 0xFFFF := by
  cases r <;> rw [State.seg, h] <;> rfl

theorem State.realMode_of_reset {s : State} (h : s.sys.cr0 = SysRegs.reset.cr0) (hm : s.smm = false) :
    s.realMode = true := by
  rw [State.realMode, h, hm]
  decide

theorem State.breakpointArmed_of_reset {s : State} (h : s.sys.dr7 = SysRegs.reset.dr7) : s.breakpointArmed = false := by
  rw [State.breakpointArmed, h]
  decide

/-- CD and NW are no part of the mode (R44, R383). -/
theorem initCr0_mode (old : Dword) : (initCr0 old).getLsbD 0 = false ∧ (initCr0 old).getLsbD 31 = false := by
  constructor <;> simp [initCr0, SysRegs.reset]

theorem State.Sound.applyInit {s : State} (hs : s.Sound) : s.applyInit.Sound :=
  have hmode : s.applyInit.realMode = true := by
    obtain ⟨h0, h31⟩ := initCr0_mode s.sys.cr0
    have hsmm := hs.mode
    simp only [State.realMode, Bool.and_eq_true, Bool.not_eq_true'] at hsmm ⊢
    exact ⟨⟨h0, h31⟩, hsmm.2⟩
  { hs with
    dirty := .nil
    eip := show (0x0000FFF0#32).toNat < 2 ^ 16 by decide
    mode := hmode
    noBreakpoint := State.breakpointArmed_of_reset rfl
    idtr := rfl
    limits := Sregs.reset_limits _ rfl }

theorem State.Sound.coreStep {s t : State} (hs : s.Sound) (h : coreStep s = .next t) : t.Sound := by
  obtain rfl | ⟨u, rfl, hc | ⟨n, rfl⟩⟩ := coreStep_cases h
  · exact hs
  · exact (hs.of_carries hc).refreshOut
  · exact (hs.of_carries (carries_drew s n)).applyInit.refreshOut

/-! ### Steps of the platform -/

/-- Input pins that leave the bus to this master. -/
theorem State.Sound.withInputs {s : State} (hs : s.Sound) {p : Pins} (h : p.inp.oneMaster = true) :
    ({ s with pins := p } : State).Sound := { hs with oneMaster := h }

theorem State.Sound.tapReset {s : State} (hs : s.Sound) : s.tapReset.Sound :=
  have hw := (Board.wf_parts hs.board).1
  { hs with
    irOutLength := (TapCodes.wf_lengths hw).2.1
    tdo := by simp [State.tapReset]
    taken := fun h => absurd h (State.not_pinsTaken_idcode (s := s.tapReset) hw rfl) }

theorem State.Sound.applyReset {s : State} (hs : s.Sound) : s.applyReset.Sound :=
  have hr := hs.tapReset
  { hr with
    dirty := .nil
    eip := show (0x0000FFF0#32).toNat < 2 ^ 16 by decide
    mode := State.realMode_of_reset rfl rfl
    noBreakpoint := State.breakpointArmed_of_reset rfl
    idtr := rfl
    limits := Sregs.reset_limits _ rfl
    taken := fun h => absurd h (State.not_pinsTaken_idcode (s := s.applyReset) (Board.wf_parts hs.board).1 rfl) }

/-- No host pin is one that another master takes the bus by (R170). -/
theorem InPins.oneMaster_set {p : InPins} (h : p.oneMaster = true) (q : HostPin) (b : Bool) :
    (p.set q.pin b).oneMaster = true := by
  cases q <;> exact h

theorem State.Sound.latchEdge {s : State} (hs : s.Sound) (p : HostPin) (old new : Bool) :
    (s.latchEdge p old new).Sound := by
  have hl : ∀ l : Latches, ({ s with latch := l } : State).Sound := fun l => { hs with }
  have hif : ∀ (c : Bool) (l : Latches), (if c = true then { s with latch := l } else s).Sound := by
    intro c l
    cases c
    · exact hs
    · exact hl l
  cases p
  case a20m => exact hl _
  case nmi | init | smi | flush => exact hif _ _
  all_goals exact hs

theorem State.Sound.endReset {s t : State} (hs : s.Sound) (h : s.endReset = .next t) : t.Sound := by
  unfold State.endReset at h
  split at h
  · cases h
  · have hb : ({ s with bfRatio := s.pins.inp.ratio } : State).Sound := { hs with }
    dsimp only at h
    split at h
    · cases h
      exact (hb.of_carries (carries_setR32 _ .ax _)).of_carries (carries_drew _ 1)
    · cases h
      exact hb

theorem State.Sound.drivePin {s t : State} (hs : s.Sound) {p : HostPin} {new : Bool}
    (h : drivePin p new s = .next t) : t.Sound := by
  have hp := hs.withInputs (p := { s.pins with inp := s.pins.inp.set p.pin new })
    (InPins.oneMaster_set hs.oneMaster p new)
  unfold Machine.drivePin at h
  cases p
  case reset =>
    dsimp only at h
    split at h
    · cases h; exact hp.applyReset
    · split at h
      · exact hp.endReset h
      · cases h; exact hp
  case trst =>
    dsimp only at h
    split at h
    · cases h; exact hp.tapReset
    · cases h; exact hp
  all_goals
    cases h
    exact hp.latchEdge _ _ _

/-! ### TCK periods -/

theorem State.Sound.setTestPins {s : State} (hs : s.Sound) (tms tdi : Bool) : (s.setTestPins tms tdi).Sound :=
  hs.withInputs hs.oneMaster

/-- A code that names no instruction is none of the five (R246). -/
theorem decodeIr_none {p : TapCodes} {c : List Bool} (h : decodeIr p c = none) :
    c ≠ p.extest ∧ c ≠ p.sample ∧ c ≠ p.idcode ∧ c ≠ p.highz ∧ c ≠ p.bypass := by
  unfold decodeIr at h
  split_ifs at h with he hs hi hz hb
  exact ⟨he, hs, hi, hz, hb⟩

/-- A code that comes into force and takes the pins marks that the core needs a RESET (R240, R241). -/
theorem tapFall_taken {s t : State} (hw : s.board.ir.wf = true)
    (hs : s.pinsTaken = true → s.tap.coreNeedsReset = true) (h : tapFall s = .next t) :
    t.pinsTaken = true → t.tap.coreNeedsReset = true := by
  unfold tapFall at h
  cases hc : s.tap.ctl
  case updateIr =>
    simp only [hc] at h
    cases hd : decodeIr s.board.ir s.tap.irShift with
    | none =>
      rw [hd] at h
      cases h
      intro ht
      obtain ⟨he, -, -, hz, -⟩ := decodeIr_none hd
      exact absurd ((State.pinsTaken_iff _).1 ht) (not_or.2 ⟨he, hz⟩)
    | some i =>
      obtain ⟨b, e, -, hb⟩ := exec_decodeIr hd
      rw [hd] at h
      cases e.symm.trans h
      exact fun ht => hb hw ((State.pinsTaken_iff _).1 ht)
  case updateDr =>
    simp only [hc] at h
    cases h
    unfold State.updateDr
    cases s.sel <;> exact hs
  case testLogicReset =>
    simp only [hc] at h
    cases h
    exact fun ht => absurd ht (State.not_pinsTaken_idcode (s := s.setIrOut s.board.ir.idcode) hw rfl)
  all_goals
    simp only [hc] at h
    cases h
    exact hs

theorem tapCycle_taken {s t : State} {tms tdi : Bool} {changing : List PinBit} (hw : s.board.ir.wf = true)
    (hs : s.pinsTaken = true → s.tap.coreNeedsReset = true) (hh : s.tapHeld = false)
    (h : tapCycle tms tdi changing s = .next t) : t.pinsTaken = true → t.tap.coreNeedsReset = true := by
  obtain ⟨a, b, c, d, n, hr⟩ := (s.setTestPins tms tdi).tapRise_frame tms tdi changing
  obtain ⟨l, m, hf, -⟩ := tapFall_next ((s.setTestPins tms tdi).tapRise tms tdi changing)
  have ht := tapFall_taken (by rw [hr]; exact hw) (by rw [hr]; exact hs) hf
  rw [tapCycle, if_neg (by simp [hh]), hf] at h
  cases h
  exact ht

theorem levelOf_ne_z (b : Bool) : levelOf b ≠ .z := by cases b <;> decide

theorem firstBit_ne_z {l : List Bool} (h : 0 < l.length) : firstBit l ≠ .z := by
  match l, h with
  | b :: _, _ => exact levelOf_ne_z b

/-- The selected data register always has a bit to show (R216). -/
theorem State.drBit_ne_z {s : State} (h : 0 < s.tap.bsrShift.length) : s.drBit ≠ .z := by
  unfold State.drBit
  cases s.sel
  · exact firstBit_ne_z h
  · exact levelOf_ne_z _
  · exact levelOf_ne_z _

theorem shiftBits_length (l : List Bool) (b : Bool) : (shiftBits l b).length = l.length := by
  simp [shiftBits]

theorem State.Sound.tapCycle {s t : State} (hs : s.Sound) {tms tdi : Bool} {changing : List PinBit}
    (h : tapCycle tms tdi changing s = .next t) : t.Sound := by
  cases hh : s.tapHeld with
  | true =>
    cases (tapCycle_held hh tms tdi changing).symm.trans h
    exact (hs.setTestPins tms tdi).tapReset
  | false =>
  obtain ⟨hw, hmap⟩ := Board.wf_parts hs.board
  obtain ⟨hcap, hid, hlen⟩ := TapCodes.wf_lengths hw
  have htaken := tapCycle_taken hw hs.taken hh h
  obtain ⟨u, hu, hctl, hirs, hiro, hbs, hbo, -, -, htdo, -, n, hrest⟩ := tapCycle_next hh tms tdi changing
  cases hu.symm.trans h
  have hb : t.board = s.board := by rw [hrest]; rfl
  have hirs' : t.tap.irShift.length = s.board.ir.len := by
    rw [hirs]
    split
    · exact hcap
    · rw [shiftBits_length, hs.irShiftLength]
    · exact hs.irShiftLength
  have hbs' : t.tap.bsrShift.length = s.board.bsrMap.length := by
    rw [hbs]
    split
    · rw [captureCells_length, List.length_map]
    · rw [shiftBits_length, hs.shiftLength]
    · exact hs.shiftLength
  have hiro' : t.tap.irOut.length = s.board.ir.len := by
    rw [hiro]
    split
    · exact hs.irShiftLength
    · exact hid
    · exact hs.irOutLength
  have hbo' : t.tap.bsrOut.length = s.board.bsrMap.length := by
    rw [hbo]
    split
    · exact hs.shiftLength
    · exact hs.outLength
  have htdo' : t.tap.tdo ≠ .z ↔ t.tap.ctl = .shiftIr ∨ t.tap.ctl = .shiftDr := by
    rw [htdo, ← hctl]
    cases t.tap.ctl
    case shiftIr => simp [firstBit_ne_z (show 0 < t.tap.irShift.length by omega)]
    case shiftDr => simp [State.drBit_ne_z (show 0 < t.tap.bsrShift.length by omega)]
    all_goals simp
  have hp := hs.setTestPins tms tdi
  rw [hrest] at hb hirs' hbs' hiro' hbo' htdo' htaken ⊢
  exact { hp with
    irShiftLength := hirs'
    irOutLength := hiro'
    shiftLength := hbs'
    outLength := hbo'
    tdo := htdo'
    taken := htaken }

theorem State.Sound.tapStep {s t : State} (hs : s.Sound) {tms tdi : Sample} {changing : List PinBit}
    (h : tapStep tms tdi changing s = .next t) : t.Sound := by
  obtain ⟨a, b, n, e⟩ := tapStep_cycle tms tdi changing s
  have hd : ({ s with draws := n } : State).Sound := { hs with }
  exact hd.tapCycle (e.symm.trans h)

/-! ### Every step -/

theorem State.Sound.perform {s t : State} (hs : s.Sound) {m : Move} (h : perform m s = .next t) : t.Sound := by
  cases m
  case core => exact hs.coreStep h
  case tck tms tdi changing => exact hs.tapStep h
  case drive p b => exact hs.drivePin h
  all_goals
    cases h
    exact hs.withInputs hs.oneMaster

/-- Settles O59: agent by agent. -/
theorem stepKeepsSound : Obligations.StepKeepsSound := by
  intro s t hs h
  unfold step advance at h
  cases hm : s.schedule with
  | nil =>
    rw [hm] at h
    exact hs.coreStep h
  | cons m rest =>
    rw [hm] at h
    have hr : ({ s with schedule := rest } : State).Sound := { hs with }
    exact hr.perform h

theorem Tap.reset_lengths (ir : TapCodes) (n : Nat) : (Tap.reset ir n).irShift.length = ir.len ∧
    (Tap.reset ir n).bsrShift.length = n ∧ (Tap.reset ir n).bsrOut.length = n :=
  ⟨List.length_replicate, List.length_replicate, List.length_replicate⟩

/-- Settles O60: each clause is a fact of one state. -/
theorem resetIsSound : Obligations.ResetIsSound where
  memory := rfl
  dirty := .nil
  eip := by decide
  mode := State.realMode_of_reset rfl rfl
  noBreakpoint := State.breakpointArmed_of_reset rfl
  idtr := rfl
  limits := Sregs.reset_limits _ rfl
  board := by decide +kernel
  oneMaster := rfl
  irShiftLength := (Tap.reset_lengths .expected Board.defaultMap.length).1
  irOutLength := rfl
  shiftLength := (Tap.reset_lengths .expected Board.defaultMap.length).2.1
  outLength := (Tap.reset_lengths .expected Board.defaultMap.length).2.2
  tdo := by simp [State.reset, Tap.reset]
  taken h := absurd h (State.not_pinsTaken_idcode (by decide +kernel) rfl)

end Sys2Proof.Machine
end

section
/-! PROOFS. Registers, flags, segment loads, the time stamp counter, input pins: O17, O25, O30, O38, O53. -/

namespace Sys2Proof.Machine

/-! ### Bytes of a register (R40) -/

theorem putByte0_bit (x : Dword) (v : Byte) (i : Nat) :
    (putByte0 x v).getLsbD i = if i < 8 then v.getLsbD i else x.getLsbD i := by
  have low : ∀ j < 8, (0xFFFFFF00#32).getLsbD j = false := by decide
  have high : ∀ j < 32, 8 ≤ j → (0xFFFFFF00#32).getLsbD j = true := by decide
  simp only [putByte0, BitVec.getLsbD_or, BitVec.getLsbD_and, BitVec.getLsbD_setWidth]
  by_cases h : i < 8
  · rw [low i h, if_pos h]
    simp [show i < 32 by omega]
  · by_cases h' : i < 32
    · simp [h, high i h' (by omega), BitVec.getLsbD_of_ge v i (by omega)]
    · simp [h, h', BitVec.getLsbD_of_ge x i (by omega)]

theorem putByte1_bit (x : Dword) (v : Byte) (i : Nat) :
    (putByte1 x v).getLsbD i = if 8 ≤ i ∧ i < 16 then v.getLsbD (i - 8) else x.getLsbD i := by
  have mid : ∀ j < 16, 8 ≤ j → (0xFFFF00FF#32).getLsbD j = false := by decide
  have rest : ∀ j < 32, ¬(8 ≤ j ∧ j < 16) → (0xFFFF00FF#32).getLsbD j = true := by decide
  simp only [putByte1, BitVec.getLsbD_or, BitVec.getLsbD_and, BitVec.getLsbD_shiftLeft, BitVec.getLsbD_setWidth]
  by_cases h : 8 ≤ i ∧ i < 16
  · rw [mid i h.2 h.1, if_pos h]
    simp [show i < 32 by omega, show ¬i < 8 by omega, show i - 8 < 32 by omega]
  · by_cases h' : i < 32
    · rw [rest i h' h, if_neg h]
      by_cases h8 : i < 8
      · simp [h8]
      · simp [BitVec.getLsbD_of_ge v (i - 8) (by omega)]
    · simp [h, h', BitVec.getLsbD_of_ge x i (by omega)]

/-- Where the low bit of an 8-bit register stands in its 32-bit one. -/
def byteShift (r : Reg8) : Nat := if (homeOf r).2 then 8 else 0

theorem State.r8_bit (s : State) (r : Reg8) {i : Nat} (hi : i < 8) :
    (s.r8 r).getLsbD i = (s.r32 (homeOf r).1).getLsbD (byteShift r + i) := by
  unfold State.r8 byteShift
  cases (homeOf r).2
  · simp [loByte, State.r16, low16, hi, show i < 16 by omega]
  · simp [hiByte, State.r16, low16, hi, show 8 + i < 16 by omega]

/-- Every bit of every 32-bit register after a write of an 8-bit one (R40). -/
theorem State.setR8_bit (s : State) (r : Reg8) (v : Byte) (g : Reg) (i : Nat) :
    ((s.setR8 r v).r32 g).getLsbD i =
      if g = (homeOf r).1 ∧ byteShift r ≤ i ∧ i < byteShift r + 8 then v.getLsbD (i - byteShift r)
      else (s.r32 g).getLsbD i := by
  unfold State.setR8 byteShift
  by_cases hg : g = (homeOf r).1
  · subst hg
    cases (homeOf r).2
    · simp [putByte0_bit]
    · simp [putByte1_bit]
  · cases (homeOf r).2 <;> simp [hg]

/-- Two 8-bit registers of one 32-bit register stand in different bytes of it. -/
theorem byteShift_ne {q r : Reg8} (h : q ≠ r) (hh : (homeOf q).1 = (homeOf r).1) :
    byteShift q + 8 ≤ byteShift r ∨ byteShift r + 8 ≤ byteShift q := by
  revert h hh
  cases q <;> cases r <;> decide

theorem State.r8_setR8_same (s : State) (r : Reg8) (v : Byte) : (s.setR8 r v).r8 r = v := by
  apply BitVec.eq_of_getLsbD_eq
  intro i hi
  rw [State.r8_bit _ _ hi, State.setR8_bit, if_pos ⟨rfl, by omega, by omega⟩, Nat.add_sub_cancel_left]

theorem State.r8_setR8_other (s : State) {r q : Reg8} (v : Byte) (h : q ≠ r) : (s.setR8 r v).r8 q = s.r8 q := by
  apply BitVec.eq_of_getLsbD_eq
  intro i hi
  rw [State.r8_bit _ _ hi, State.r8_bit _ _ hi, State.setR8_bit, if_neg]
  rintro ⟨hh, h1, h2⟩
  have := byteShift_ne h hh
  omega

theorem State.setR8_r32_other (s : State) {r : Reg8} {g : Reg} (v : Byte) (h : g ≠ (homeOf r).1) :
    (s.setR8 r v).r32 g = s.r32 g := by
  apply BitVec.eq_of_getLsbD_eq
  intro i hi
  rw [State.setR8_bit, if_neg fun hc => h hc.1]

theorem State.setR8_upper (s : State) (r : Reg8) (v : Byte) (g : Reg) :
    ((s.setR8 r v).r32 g).extractLsb' 16 16 = (s.r32 g).extractLsb' 16 16 := by
  have hb : byteShift r ≤ 8 := by unfold byteShift; split <;> omega
  apply BitVec.eq_of_getLsbD_eq
  intro i hi
  rw [BitVec.getLsbD_extractLsb', BitVec.getLsbD_extractLsb', State.setR8_bit, if_neg (by omega)]

/-- Settles O38: bit by bit for the 8-bit registers. -/
theorem partialRegisterWrites : Obligations.PartialRegisterWrites := by
  refine ⟨fun s r q v => ⟨by simp, State.setR16_upper s r q v, fun h => by simp [State.setR16, h]⟩, fun s r q v => ?_⟩
  exact ⟨s.r8_setR8_same r v, s.r8_setR8_other v, fun g => s.setR8_r32_other v, s.setR8_upper r v⟩

/-! ### FLAGS as a word (R42) -/

theorem Eflags.load16_bits16 (e : Eflags) (fl : Word) : (e.load16 fl).bits16 = (fl &&& 0x7FD5) ||| 0x0002 := by
  apply BitVec.eq_of_getLsbD_eq
  intro i hi
  rw [Eflags.bits16_bit, BitVec.getLsbD_or, BitVec.getLsbD_and]
  interval_cases i <;> simp [Eflags.low, Eflags.load16]

theorem Eflags.bits_low (e : Eflags) : e.bits.extractLsb' 0 16 = e.bits16 := by
  apply BitVec.eq_of_getLsbD_eq
  intro i hi
  have : i < e.low.length := hi
  rw [BitVec.getLsbD_extractLsb', Eflags.bits_bit, Eflags.bits16_bit, Nat.zero_add, List.getD_append _ _ _ _ this]
  simp [hi]

/-- EFLAGS[31:16] is made of the fields `Eflags.high` lists. -/
theorem Eflags.bits_high {e f : Eflags} (h : e.high = f.high) :
    e.bits.extractLsb' 16 16 = f.bits.extractLsb' 16 16 := by
  apply BitVec.eq_of_getLsbD_eq
  intro i hi
  have hl : ∀ e : Eflags, e.low.length ≤ 16 + i := fun e => Nat.le_add_right 16 i
  rw [BitVec.getLsbD_extractLsb', BitVec.getLsbD_extractLsb', Eflags.bits_bit, Eflags.bits_bit,
    List.getD_append_right _ _ _ _ (hl e), List.getD_append_right _ _ _ _ (hl f), h]
  rfl

theorem Eflags.load16_self (e : Eflags) : e.load16 e.bits16 = e := by
  have hiopl : e.bits16.extractLsb' 12 2 = e.iopl := by
    apply BitVec.eq_of_getLsbD_eq
    intro i hi
    rw [BitVec.getLsbD_extractLsb', Eflags.bits16_bit]
    interval_cases i <;> rfl
  simp only [Eflags.load16, Eflags.bits16_bit, hiopl]
  rfl

/-- Settles O25: bit by bit. -/
theorem flagsImageIsMasked : Obligations.FlagsImageIsMasked := fun e fl =>
  ⟨e.load16_bits16 fl, Eflags.bits_high rfl, e.bits_low, e.load16_self⟩

/-! ### MOV to a segment register (R277) -/

theorem loadTarget_seg {sr : Sreg} (h : sr ≠ .cs) : loadTarget (.seg sr) = some sr := by
  cases sr
  case cs => exact absurd rfl h
  all_goals rfl

/-- A load of a segment register whose operand meets no obstacle: `h` is the shadow it leaves, in the state `t`. -/
theorem exec_loadSeg {s t : State} {rm : Rm} {sr : Sreg} {v : Word} {h : Shadow} (hcs : sr ≠ .cs)
    (hv : s.holdsAt (s.place rm) = some v) (hf : s.mayFinish (.movSregRm (.seg sr) rm) = true)
    (hs : shadowOfLoad sr (s.loadSeg sr v) = .ok (h, t)) (ht : t.flag .tf = s.flag .tf) (he : t.eip = s.eip) :
    exec (.movSregRm (.seg sr) rm) s = .next ((t.atEnd (.movSregRm (.seg sr) rm)).setShadow h) := by
  rw [exec_movSregRm (loadTarget_seg hcs), straightShadow_ok hf ((loadSegBody_eq sr hv).trans hs) ht, State.atEnd,
    State.nextIp_of_eip he]
  rfl

/-- A body that raises UD before it touches an operand enters vector 6 (R116, R365). -/
theorem straightShadow_ud {i : Instr} {s : State} (hp : s.pastLimit i = false) (h : s.canEnter 6 = true) :
    straightShadow i (raise .ud) s = .next (s.entered 6 s.ip) := by
  rw [straightShadow, if_neg (by simp [hp]), run_raise, conclude_raise]
  exact deliverFault_entered (e := .ud) h

theorem selBase_toNat (v : Word) : (selBase v).toNat = 16 * v.toNat := by
  have := v.isLt
  rw [selBase, BitVec.toNat_shiftLeft, zext32_toNat, Nat.shiftLeft_eq]
  omega

/-- Settles O17: by which shadow the load leaves, and by the two instructions that name no segment register. -/
theorem loadSegmentResult : Obligations.LoadSegmentResult := by
  refine ⟨fun s rm sr v hcs hv hf => ?_, fun s => ⟨rfl, rfl⟩, fun s rm f i hi hp henter => ?_⟩
  · obtain ⟨hother, hfirst, hlater⟩ := shadowOfLoad_ok sr (s.loadSeg sr v)
    have htf := State.flag_loadSeg s sr v .tf
    have hload : (s.loadSeg sr v).seg sr = (s.seg sr).load v := by simp
    rw [hload]
    refine ⟨fun hss => ?_, fun hss h0 => ?_, fun hss h0 => ?_, rfl, selBase_toNat v, rfl, rfl⟩
    · rw [exec_loadSeg hcs hv hf (hother hss) htf (by simp)]
      rfl
    · rw [exec_loadSeg hcs hv hf (hfirst hss (by simpa using h0)) htf (by simp)]
    · obtain ⟨h, hh, e⟩ := hlater hss (by simpa using h0)
      exact ⟨h, hh, exec_loadSeg hcs hv hf e htf (by simp)⟩
  · obtain ⟨rfl, hf⟩ | ⟨rfl, hf⟩ := hi
    · have ht : loadTarget f = none := by obtain rfl | rfl | rfl := hf <;> rfl
      rw [exec_movSregRm_invalid ht, straightShadow_ud hp henter]
    · have he : exec (.movRmSreg rm f) s = straightShadow (.movRmSreg rm f) (raise .ud) s := by
        obtain rfl | rfl := hf <;> rfl
      rw [he, straightShadow_ud hp henter]

/-! ### The time stamp counter (R48) -/

theorem extract_high (v : BitVec 64) : v.extractLsb' 32 32 = (v >>> 32).setWidth 32 := by
  apply BitVec.eq_of_getLsbD_eq
  intro i hi
  simp [hi]

/-- A TCK period changes the test logic, its pins and the free values taken, and nothing else of the machine. -/
theorem tapStep_frame {s t : State} {tms tdi : Sample} {changing : List PinBit}
    (h : tapStep tms tdi changing s = .next t) :
    ∃ a b, t = { s.setTestPins a b with tap := t.tap, draws := t.draws } := by
  obtain ⟨a, b, n, e⟩ := tapStep_cycle tms tdi changing s
  rw [e] at h
  refine ⟨a, b, ?_⟩
  cases hh : ({ s with draws := n } : State).tapHeld with
  | true =>
    cases (tapCycle_held hh a b changing).symm.trans h
    rfl
  | false =>
    obtain ⟨u, hu, -, -, -, -, -, -, -, -, -, m, hrest⟩ := tapCycle_next hh a b changing
    cases hu.symm.trans h
    rw [hrest]
    rfl

theorem latchEdge_tsc (s : State) (p : HostPin) (old new : Bool) : (s.latchEdge p old new).tsc = s.tsc := by
  unfold State.latchEdge
  cases p
  case nmi | init | smi | flush => dsimp only; split <;> rfl
  all_goals rfl

theorem endReset_tsc {s t : State} (h : s.endReset = .next t) : t.tsc = s.tsc := by
  unfold State.endReset at h
  split at h
  · cases h
  · dsimp only at h
    split at h <;> cases h <;> rfl

theorem drivePin_tsc {s t : State} {p : HostPin} {b : Bool} (h : drivePin p b s = .next t)
    (hr : ¬(p = .reset ∧ b = true)) : t.tsc = s.tsc := by
  unfold drivePin at h
  cases p
  case reset =>
    have hb : b = false := by simpa using hr
    subst hb
    dsimp only at h
    split at h
    · next hc => simp at hc
    · split at h
      · exact (endReset_tsc h).trans rfl
      · cases h; rfl
  case trst =>
    dsimp only at h
    split at h <;> cases h <;> rfl
  all_goals
    cases h
    exact latchEdge_tsc _ _ _ _

theorem coreStep_tsc {s t : State} (h : coreStep s = .next t) : s.tsc.toNat ≤ t.tsc.toNat := by
  obtain rfl | ⟨u, rfl, hc | ⟨n, rfl⟩⟩ := coreStep_cases h
  · exact Nat.le_refl _
  · exact hc.tsc
  · exact Nat.le_refl _

/-- No move but the assertion of RESET lets the counter fall. -/
theorem perform_tsc {s t : State} {m : Move} (h : perform m s = .next t) (hm : m ≠ .drive .reset true) :
    s.tsc.toNat ≤ t.tsc.toNat := by
  cases m
  case core => exact coreStep_tsc h
  case tck tms tdi changing =>
    obtain ⟨a, b, e⟩ := tapStep_frame h
    rw [e]
    exact Nat.le_refl _
  case drive p b =>
    have hr : ¬(p = .reset ∧ b = true) := fun hc => hm (by rw [hc.1, hc.2])
    exact (congrArg BitVec.toNat (drivePin_tsc h hr)).ge
  all_goals
    cases h
    exact Nat.le_refl _

theorem exec_rdtsc {s : State} (h : s.mayFinish .rdtsc = true) :
    exec .rdtsc s = .next ((s.readTsc (tscAfter s.tsc (Config.draw s.draws))).atEnd .rdtsc) :=
  straight_ok h (rdtscBody_ok s) rfl rfl

/-- Settles O30: the value read is not below the last one, and nothing but RESET writes the counter otherwise. -/
theorem timeStampNeverFalls : Obligations.TimeStampNeverFalls := by
  refine ⟨rfl, fun s t h hs => ?_, fun s h => ⟨_, tscAfter_ge s.tsc (Config.draw s.draws), ?_⟩⟩
  · unfold step advance at h
    cases hm : s.schedule with
    | nil =>
      rw [hm] at h
      exact coreStep_tsc h
    | cons m rest =>
      rw [hm] at h
      exact perform_tsc (s := { s with schedule := rest }) h fun e => hs rest (by rw [hm, e])
  · rw [exec_rdtsc h, State.readTsc, extract_high]
    rfl

/-! ### Input pins (R56, R382 to R388) -/

/-- A latch that an edge sets and nothing clears, `l` giving the latches with or without the edge. -/
theorem latch_if {s : State} (l : Bool → Latches) (c : Bool) {on : Latches} (h0 : l false = s.latch)
    (h1 : l true = on) : (if c = true then { s with latch := on } else s) = { s with latch := l c } := by
  cases c
  · rw [h0]; rfl
  · rw [h1]; rfl

/-- Settles O53: by the edge each latch waits for. -/
theorem inputPinsLatch : Obligations.InputPinsLatch := by
  intro s b
  have hedge : ∀ old : Bool, (b && !old && !s.pins.inp.reset) = (!old && b && !s.pins.inp.reset) :=
    fun old => by rw [Bool.and_comm b]
  simp only [hedge]
  refine ⟨?_, ?_, ?_, ?_, rfl, rfl, rfl⟩
  · exact congrArg Host.Outcome.next (latch_if (fun c => { s.latch with nmiPending := s.latch.nmiPending || c }) _
      (by simp) (by simp))
  · exact congrArg Host.Outcome.next (latch_if (fun c => { s.latch with initPending := s.latch.initPending || c }) _
      (by simp) (by simp))
  · exact congrArg Host.Outcome.next (latch_if (fun c => { s.latch with smiPending := s.latch.smiPending || c }) _
      (by simp) (by simp))
  · exact congrArg Host.Outcome.next (latch_if (fun c => { s.latch with flushPending := s.latch.flushPending || c }) _
      (by simp) (by simp))

end Sys2Proof.Machine
end

section
/-! PROOFS. The test logic: O41, O46, O49. -/

namespace Sys2Proof.Machine

/-! ### The five instructions of the TAP (R240) -/

theorem selOf_of_ne {p : TapCodes} {c : List Bool} (he : c ≠ p.extest) (hs : c ≠ p.sample) (hi : c ≠ p.idcode) :
    selOf p c = .br := by
  rw [selOf, if_neg he, if_neg hs, if_neg hi]

theorem selOf_codes {p : TapCodes} (h : p.wf = true) : selOf p p.extest = .bsr ∧ selOf p p.sample = .bsr ∧
    selOf p p.idcode = .dir ∧ selOf p p.highz = .br ∧ selOf p p.bypass = .br := by
  have hd := p.wf_distinct h
  simp only [TapCodes.all, List.nodup_cons, List.mem_cons, List.not_mem_nil, or_false, not_or] at hd
  obtain ⟨⟨hes, hei, hez, heb⟩, ⟨hsi, hsz, hsb⟩, ⟨hiz, hib⟩, -⟩ := hd
  refine ⟨?_, ?_, ?_, selOf_of_ne (Ne.symm hez) (Ne.symm hsz) (Ne.symm hiz),
    selOf_of_ne (Ne.symm heb) (Ne.symm hsb) (Ne.symm hib)⟩
  · rw [selOf, if_pos rfl]
  · rw [selOf, if_neg (Ne.symm hes), if_pos rfl]
  · rw [selOf, if_neg (Ne.symm hei), if_neg (Ne.symm hsi), if_pos rfl]

/-- Settles O41: what each instruction writes, and that the five codes are distinct (D16). -/
theorem tapInstructionsComeIntoForce : Obligations.TapInstructionsComeIntoForce := by
  intro s hw
  obtain ⟨hextest, hsample, hidcode, hhighz, hbypass⟩ := selOf_codes hw
  refine ⟨rfl, fun t h => ?_, rfl, rfl, rfl, rfl, hextest, hsample, hidcode, hhighz, hbypass, fun c h => ?_⟩
  · cases h
    exact Bool.and_eq_right_iff_imp.2 fun _ => decide_eq_true rfl
  · obtain ⟨he, hs, hi, -, -⟩ := decodeIr_none h
    exact selOf_of_ne he hs hi

/-! ### A boundary scan (R216 to R219) -/

/-- The controller runs and stands at `c`, with the boundary-scan register selected. -/
structure Scanning (c : TapCtl) (s : State) : Prop where
  held : s.tapHeld = false
  ctl : s.tap.ctl = c
  sel : s.sel = .bsr

/-- What a TCK period does to the boundary-scan register while it stays selected. -/
structure ScanPeriod (c : TapCtl) (tms tdi : Bool) (s t : State) : Prop where
  scanning : Scanning (c.after tms) t
  capture : c = .captureDr → t.tap.bsrShift.length = s.board.bsrMap.length
  shift : c = .shiftDr → t.tap.bsrShift = (s.tap.bsrShift ++ [tdi]).drop 1
  update : c.after tms = .updateDr → t.tap.bsrOut = s.tap.bsrShift
  keep : c.after tms ≠ .updateDr → t.tap.bsrOut = s.tap.bsrOut
  tdo : c.after tms = .shiftDr → t.tap.tdo = firstBit t.tap.bsrShift
  quiet : c.after tms ≠ .shiftDr → c.after tms ≠ .shiftIr → t.tap.tdo = .z

theorem tapCycle_scan {s : State} {c : TapCtl} (h : Scanning c s) (tms tdi : Bool) (hu : c.after tms ≠ .updateIr)
    (hr : c.after tms ≠ .testLogicReset) : ∃ t, tapCycle tms tdi [] s = .next t ∧ ScanPeriod c tms tdi s t := by
  obtain ⟨t, ht, hctl, -, hiro, hbs, hbo, -, -, htdo, hheld, n, hrest⟩ := tapCycle_next h.held tms tdi []
  rw [h.ctl] at hctl hiro hbs hbo htdo
  rw [h.sel] at hbs hbo
  have hirOut : t.tap.irOut = s.tap.irOut := by
    rw [hiro]
    split
    · next e => exact absurd e hu
    · next e => exact absurd e hr
    · rfl
  have hsel : t.sel = .bsr := by
    have hb : t.board = s.board := by rw [hrest]; rfl
    rw [State.sel, hb, hirOut]
    exact h.sel
  refine ⟨t, ht, ⟨hheld, hctl, hsel⟩, ?_, ?_, ?_, ?_, ?_, ?_⟩
  · rintro rfl
    rw [hbs, captureCells_length, List.length_map]
  · rintro rfl
    exact hbs
  · intro e
    rw [hbo, e]
  · intro e
    rw [hbo]
    split
    · next e' _ => exact absurd e' e
    · rfl
  · intro e
    rw [htdo, e]
    change t.drBit = _
    rw [State.drBit, hsel]
  · intro e e'
    rw [htdo]
    split
    · next k => exact absurd k e'
    · next k => exact absurd k e
    · rfl

theorem tapRun_cons {s t : State} {tms tdi : Bool} (h : tapCycle tms tdi [] s = .next t) (rest : List Bool) :
    tapRun tms (tdi :: rest) s = tapRun tms rest t := by
  rw [tapRun, h]

/-- A bit put behind what is left of a list is behind the list. -/
theorem drop_append_bit {l : List Bool} (b : Bool) {k : Nat} (h : k ≤ l.length) :
    (l.drop k ++ [b]).drop 1 = (l ++ [b]).drop (k + 1) := by
  rw [← List.drop_append_of_le_length h, List.drop_drop]

/-- Periods in Shift-DR push the bits from TDI in behind what the register held (R218). -/
theorem tapRun_shiftDr {s : State} (h : Scanning .shiftDr s) (vs : List Bool) :
    ∃ t, tapRun false vs s = .next t ∧ Scanning .shiftDr t ∧
      t.tap.bsrShift = (s.tap.bsrShift ++ vs).drop vs.length ∧ t.tap.bsrOut = s.tap.bsrOut ∧
      (vs ≠ [] → t.tap.tdo = firstBit t.tap.bsrShift) := by
  induction vs generalizing s with
  | nil => exact ⟨s, rfl, h, by simp, rfl, fun e => absurd rfl e⟩
  | cons b vs ih =>
    obtain ⟨u, hu, hp⟩ := tapCycle_scan h false b nofun nofun
    obtain ⟨t, ht, hscan, hshift, hout, htdo⟩ := ih hp.scanning
    refine ⟨t, (tapRun_cons hu vs).trans ht, hscan, ?_, hout.trans (hp.keep nofun), fun _ => ?_⟩
    · have hle : 1 ≤ (s.tap.bsrShift ++ [b]).length := by simp
      rw [hshift, hp.shift rfl, ← List.drop_append_of_le_length hle, List.drop_drop, List.append_assoc,
        List.singleton_append, List.length_cons, Nat.add_comm]
    · cases vs with
      | nil =>
        cases ht
        exact hp.tdo rfl
      | cons c vs => exact htdo nofun

/-- Settles O46: a scan is a capture, periods in Shift-DR, and the edge that leaves it. -/
theorem boundaryScanDoesNotInvert : Obligations.BoundaryScanDoesNotInvert := by
  refine ⟨fun s b hh hc hs => ?_, fun s x b y vs hh hc hs hlen => ?_, fun s b vs hh hc hs hlen => ?_⟩
  · obtain ⟨t, ht, hp⟩ := tapCycle_scan ⟨hh, hc, hs⟩ true b nofun nofun
    exact ⟨t, tapRun_cons ht [], hp.scanning.ctl, hp.shift rfl, hp.keep nofun, hp.quiet nofun nofun⟩
  · obtain ⟨c, hcap, hp⟩ := tapCycle_scan ⟨hh, hc, hs⟩ false x nofun nofun
    obtain ⟨t, ht, hscan, hshift, hout, -⟩ := tapRun_shiftDr hp.scanning vs
    obtain ⟨e, he, hleave⟩ := tapCycle_scan hscan true b nofun nofun
    obtain ⟨u, hu, hupdate⟩ := tapCycle_scan hleave.scanning true y nofun nofun
    refine ⟨t, u, (tapRun_cons hcap vs).trans ht, hout.trans (hp.keep nofun), ?_, hupdate.scanning.ctl, ?_⟩
    · rw [tapRun_cons he, tapRun_cons hu, tapRun]
    · have hl : c.tap.bsrShift.length = vs.length + 1 := by
        rw [hp.capture rfl, ← hlen, List.length_append, List.length_singleton]
      rw [hupdate.update rfl, hleave.shift rfl, hshift, drop_append_bit b (by simp), List.append_assoc,
        List.drop_left' hl]
  · obtain ⟨t, ht, hscan, hshift, hout, htdo⟩ := tapRun_shiftDr ⟨hh, hc, hs⟩ (b :: vs)
    rw [List.drop_left' hlen.symm] at hshift
    refine ⟨t, ht, hshift, hscan.ctl, ?_, hout⟩
    rw [htdo nofun, hshift]
    rfl

/-! ### The test logic reads nothing of the core (R32, R240) -/

/-- The test logic, pins and parameters of `s` beside the core of `u`. -/
def State.besideCore (s u : State) : State :=
  { u with tap := s.tap, pins := s.pins, board := s.board, draws := s.draws }

theorem State.besideCore_self {s u : State} (ht : u.tap = s.tap) (hp : u.pins = s.pins) (hb : u.board = s.board)
    (hd : u.draws = s.draws) : s.besideCore u = u := by
  rw [State.besideCore, ← ht, ← hp, ← hb, ← hd]

theorem State.captureDr_besideCore (s u : State) (changing : List PinBit) :
    (s.besideCore u).captureDr changing = (s.captureDr changing).besideCore u := by
  have hcell : (s.besideCore u).cellCapture changing = s.cellCapture changing := by
    funext c
    cases c with
    | control gov on => rfl
    | data p => cases p <;> rfl
  unfold State.captureDr
  rw [show (s.besideCore u).sel = s.sel from rfl, hcell]
  cases s.sel <;> rfl

theorem State.shiftDr_besideCore (s u : State) (tdi : Bool) :
    (s.besideCore u).shiftDr tdi = (s.shiftDr tdi).besideCore u := by
  unfold State.shiftDr
  rw [show (s.besideCore u).sel = s.sel from rfl]
  cases s.sel <;> rfl

theorem State.updateDr_besideCore (s u : State) : (s.besideCore u).updateDr = s.updateDr.besideCore u := by
  unfold State.updateDr
  rw [show (s.besideCore u).sel = s.sel from rfl]
  cases s.sel <;> rfl

theorem State.driveTdo_besideCore (s u : State) : (s.besideCore u).driveTdo = s.driveTdo.besideCore u := rfl

theorem State.tapRise_besideCore (s u : State) (tms tdi : Bool) (changing : List PinBit) :
    (s.besideCore u).tapRise tms tdi changing = (s.tapRise tms tdi changing).besideCore u := by
  unfold State.tapRise
  rw [show (s.besideCore u).tap.ctl = s.tap.ctl from rfl, State.captureDr_besideCore, State.shiftDr_besideCore]
  cases s.tap.ctl <;> rfl

theorem decodeIr_tapInstr {p : TapCodes} {c : List Bool} {i : Instr} (h : decodeIr p c = some i) :
    tapInstr i = true := by
  unfold decodeIr at h
  split_ifs at h <;> cases h <;> rfl

/-- An instruction of the TAP does the same whatever the core holds. -/
theorem exec_besideCore {i : Instr} (h : tapInstr i = true) (s u : State) :
    ∃ t, exec i s = .next t ∧ exec i (s.besideCore u) = .next (t.besideCore u) := by
  cases i
  case extest | samplePreload | idcode | highz | bypass => exact ⟨_, rfl, rfl⟩
  all_goals cases h

theorem tapFall_besideCore (s u : State) :
    ∃ t, tapFall s = .next t ∧ tapFall (s.besideCore u) = .next (t.besideCore u) := by
  unfold tapFall
  rw [show (s.besideCore u).tap = s.tap from rfl, show (s.besideCore u).board = s.board from rfl]
  cases s.tap.ctl
  case updateIr =>
    dsimp only
    cases hd : decodeIr s.board.ir s.tap.irShift with
    | none => exact ⟨_, rfl, rfl⟩
    | some i => exact exec_besideCore (decodeIr_tapInstr hd) s u
  case updateDr => exact ⟨_, rfl, congrArg Host.Outcome.next (State.updateDr_besideCore s u)⟩
  all_goals exact ⟨_, rfl, rfl⟩

theorem tapCycle_besideCore (s u : State) (tms tdi : Bool) (changing : List PinBit) :
    ∃ t, tapCycle tms tdi changing s = .next t ∧
      tapCycle tms tdi changing (s.besideCore u) = .next (t.besideCore u) := by
  cases hh : s.tapHeld with
  | true => exact ⟨_, tapCycle_held hh tms tdi changing, tapCycle_held (s := s.besideCore u) hh tms tdi changing⟩
  | false =>
    obtain ⟨t, ht, ht'⟩ := tapFall_besideCore ((s.setTestPins tms tdi).tapRise tms tdi changing) u
    refine ⟨t.driveTdo, by rw [tapCycle, if_neg (by simp [hh]), ht], ?_⟩
    have hrise : ((s.besideCore u).setTestPins tms tdi).tapRise tms tdi changing =
        ((s.setTestPins tms tdi).tapRise tms tdi changing).besideCore u :=
      State.tapRise_besideCore (s.setTestPins tms tdi) u tms tdi changing
    have hheld : ((s.besideCore u).setTestPins tms tdi).tapHeld = false := hh
    rw [tapCycle, if_neg (by simp [hheld]), hrise, ht']
    exact congrArg Host.Outcome.next (State.driveTdo_besideCore t u)

theorem tapStep_besideCore (s u : State) (tms tdi : Sample) (changing : List PinBit) :
    ∃ t, tapStep tms tdi changing s = .next t ∧
      tapStep tms tdi changing (s.besideCore u) = .next (t.besideCore u) := by
  obtain ⟨a, b, n, e, e'⟩ : ∃ a b n, tapStep tms tdi changing s = tapCycle a b changing { s with draws := n } ∧
      tapStep tms tdi changing (s.besideCore u) =
        tapCycle a b changing (({ s with draws := n } : State).besideCore u) := by
    cases tms <;> cases tdi <;> exact ⟨_, _, _, rfl, rfl⟩
  rw [e, e']
  exact tapCycle_besideCore _ u a b changing

/-- Settles O49: a period is a function of test logic, pins, parameters and free values, and writes no more. -/
theorem tapLeavesCoreAlone : Obligations.TapLeavesCoreAlone := by
  refine ⟨fun s t tms tdi changing h => ?_, fun s t u tms tdi changing h ht hp hb hd => ?_⟩
  · obtain ⟨a, b, e⟩ := tapStep_frame h
    rw [e]
    exact ⟨rfl, rfl, rfl, rfl, rfl, rfl, rfl, rfl, rfl, rfl, rfl, rfl, rfl, rfl, rfl⟩
  · obtain ⟨v, hv, hv'⟩ := tapStep_besideCore s u tms tdi changing
    rw [State.besideCore_self ht hp hb hd] at hv'
    cases hv.symm.trans h
    exact ⟨_, hv', rfl, rfl, rfl⟩

end Sys2Proof.Machine
end

section
/-! PROOFS. Addresses and pin events: O37, O57. -/

namespace Sys2Proof.Machine

/-! ### The address mask (R78) -/

/-- Clearing one bit is masking it out. -/
theorem setBit_false {w : Nat} (x : BitVec w) (i : Nat) : setBit x i false = x &&& ~~~(1#w <<< i) := by
  simp [setBit]

theorem State.phys_masked {s : State} (h : s.latch.a20Mask = true) (lin : Dword) :
    s.phys lin = (lin &&& 0xFFEFFFFF).toNat := by
  rw [State.phys, if_pos h, setBit_false]
  rfl

theorem State.phys_unmasked {s : State} (h : s.latch.a20Mask = false) (lin : Dword) : s.phys lin = lin.toNat := by
  rw [State.phys, if_neg (by simp [h])]

/-- Settles O37: the mask clears one bit, and the pin is a level its mask follows. -/
theorem a20MaskFoldsAddresses : Obligations.A20MaskFoldsAddresses :=
  ⟨fun _ lin => ⟨fun h => State.phys_masked h lin, fun h => State.phys_unmasked h lin⟩,
    fun _ _ => ⟨_, rfl, rfl, rfl⟩⟩

/-! ### Pending events (R380) -/

/-- The event picked is one of the pending ones, whatever the free value is. -/
theorem pickEvent_mem (e : Event) (es : List Event) (s : State) :
    ∃ f ∈ e :: es, ∃ n, pickEvent e es s = .ok (f, s.drew n) := by
  cases es with
  | nil => exact ⟨e, List.mem_cons_self, 0, rfl⟩
  | cons a es =>
    have hlt : (Config.draw s.draws).toNat % ((a :: es).length + 1) < (e :: a :: es).length :=
      Nat.mod_lt _ (Nat.succ_pos _)
    refine ⟨_, ?_, 1, rfl⟩
    rw [List.getD_eq_getElem _ _ hlt]
    exact List.getElem_mem hlt

/-- A core that nothing keeps from an event serves the pending ones (R260). -/
theorem coreStep_serve {s : State} {e : Event} {es : List Event} (hr : s.pins.inp.reset = false)
    (ht : s.pinsTaken = false) (hn : s.tap.coreNeedsReset = false) (hm : s.realMode = true)
    (hb : s.breakpointArmed = false) (he : s.events = e :: es) : coreStep s = settle (serve e es s) := by
  simp [coreStep, hr, ht, hn, hm, hb, he]

/-- Which of the events a core can take an SMI is among (R384). -/
theorem State.smi_mem_events (s : State) : Event.smi ∈ s.events ↔
    (s.run = .running ∨ s.run = .halted ∨ ∃ h, s.run = .stopGrant h) ∧ s.latch.smiPending = true := by
  unfold State.events
  cases hrun : s.run
  case running | halted => simp [State.boundaryEvents]
  case stopGrant h => cases hp : s.pins.inp.stpclk <;> simp [State.grantEvents, hp]
  case shutdown => simp [State.shutdownEvents]
  case stuck => simp

/-- Settles O57: a draw picks a member of the list of pending events, which each run state fixes. -/
theorem onePendingEventIsTaken : Obligations.OnePendingEventIsTaken := by
  refine ⟨fun s hr ht hn hm hb he => ?_, fun s => ⟨rfl, rfl, rfl⟩, State.smi_mem_events, fun s hrun e => ?_,
    fun s hrun => by rw [State.events, hrun]⟩
  · obtain ⟨e, es, hes⟩ := List.exists_cons_of_ne_nil he
    obtain ⟨f, hf, n, hpick⟩ := pickEvent_mem e es s
    exact ⟨f, hes ▸ hf, n, by rw [coreStep_serve hr ht hn hm hb hes, serve, hpick, conclude_ok]⟩
  · rw [State.events, hrun]
    simp [State.shutdownEvents, and_comm]

end Sys2Proof.Machine
end

section
/-! PROOFS. The ports: O28. -/

namespace Sys2Proof.Machine

/-! ### What a port access hands over (R76, R77) -/

theorem portBytes_one (port v : Word) : portBytes port 1 v = [(port, loByte v)] := by
  simp [portBytes, List.range_succ, loByte]

theorem portBytes_two (port v : Word) : portBytes port 2 v = [(port, loByte v), (port + 1, hiByte v)] := by
  simp [portBytes, List.range_succ, loByte, hiByte]

theorem loByte_and_ff (v : Word) : loByte (v &&& 0x00FF) = loByte v := by
  have ones : ∀ i < 8, (0x00FF : Word).getLsbD i = true := by decide
  apply BitVec.eq_of_getLsbD_eq
  intro i hi
  simp only [loByte, BitVec.getLsbD_extractLsb', BitVec.getLsbD_and, Nat.zero_add, ones i hi, Bool.and_true]

theorem loByte_setWidth (v : Byte) : loByte (v.setWidth 16) = v := by
  apply BitVec.eq_of_getLsbD_eq
  intro i hi
  simp [loByte, hi, show i < 16 by omega]

/-- IN of a byte (R326). -/
theorem readPortByte_ok {s : State} {port : Word} (h : s.board.portAnswers port = true) :
    readPortByte port s = .ok ((),
      (s.answer.2.see (.ioRead [(port, loByte s.answer.1)])).setR8 .al (loByte s.answer.1)) := by
  have hall : (portsFrom port 1).all s.board.portAnswers = true := by simpa [portsFrom_one] using h
  have hread : ioRead port 1 s =
      .ok (s.answer.1 &&& 0x00FF, s.answer.2.see (.ioRead [(port, loByte s.answer.1)])) := by
    rw [ioRead, run_need_bind _ hall, run_bind_ok (takeAnswer_eq s), if_pos rfl, portBytes_one, loByte_and_ff]
    rfl
  rw [readPortByte, run_bind_ok hread, run_update, loByte_and_ff]

/-- IN of a word: the low byte at the port named, the high one at the next (R76, R326). -/
theorem ioRead_word {s : State} {port : Word} (h : s.board.portAnswers port = true)
    (h' : s.board.portAnswers (port + 1) = true) : ioRead port 2 s = .ok (s.answer.1,
      s.answer.2.see (.ioRead [(port, loByte s.answer.1), (port + 1, hiByte s.answer.1)])) := by
  have hall : (portsFrom port 2).all s.board.portAnswers = true := by
    rw [portsFrom_two, List.all_cons, List.all_cons, h, h', List.all_nil]; rfl
  rw [ioRead, run_need_bind _ hall, run_bind_ok (takeAnswer_eq s), if_neg (by decide), portBytes_two]
  rfl

/-- OUT of AL (R327). -/
theorem writePortByte_ok {s : State} {port : Word} (h : s.board.portAccepts port = true) :
    writePortByte port s = .ok ((), s.see (.ioWrite [(port, s.r8 .al)])) := by
  have hall : (portsFrom port 1).all s.board.portAccepts = true := by simpa [portsFrom_one] using h
  rw [writePortByte, run_view_bind, ioWrite, run_need_bind _ hall, run_update, portBytes_one, loByte_setWidth]

/-- OUT of a word (R327). -/
theorem ioWrite_word {s : State} {port : Word} (v : Word) (h : s.board.portAccepts port = true)
    (h' : s.board.portAccepts (port + 1) = true) :
    ioWrite port 2 v s = .ok ((), s.see (.ioWrite [(port, loByte v), (port + 1, hiByte v)])) := by
  have hall : (portsFrom port 2).all s.board.portAccepts = true := by
    rw [portsFrom_two, List.all_cons, List.all_cons, h, h', List.all_nil]; rfl
  rw [ioWrite, run_need_bind _ hall, run_update, portBytes_two]

/-! ### The six instructions -/

theorem State.answer_eip (s : State) : s.answer.2.eip = s.eip := by
  unfold State.answer
  cases s.answers <;> rfl

theorem State.portsAnswer_iff (s : State) (i : Instr) : s.portsAnswer i = true ↔
    (∀ p ∈ s.portsRead i, s.board.portAnswers p = true) ∧ ∀ p ∈ s.portsWritten i, s.board.portAccepts p = true := by
  simp only [State.portsAnswer, Bool.and_eq_true, List.all_eq_true]

theorem exec_inByte {i : Instr} {body : M Unit} {s : State} {port : Word} (hf : s.mayFinish i = true)
    (hm : exec i s = straight i body s) (hb : body s = readPortByte port s) (h : s.board.portAnswers port = true) :
    exec i s = .next
      (((s.answer.2.see (.ioRead [(port, loByte s.answer.1)])).setR8 .al (loByte s.answer.1)).atEnd i) := by
  rw [hm, straight_ok hf (hb.trans (readPortByte_ok h))]
  · rw [State.flag_setR8]
    exact State.flag_answer s .tf
  · simpa using s.answer_eip

theorem exec_outByte {i : Instr} {body : M Unit} {s : State} {port : Word} (hf : s.mayFinish i = true)
    (hm : exec i s = straight i body s) (hb : body s = writePortByte port s) (h : s.board.portAccepts port = true) :
    exec i s = .next ((s.see (.ioWrite [(port, s.r8 .al)])).atEnd i) := by
  rw [hm, straight_ok hf (hb.trans (writePortByte_ok h)) rfl rfl]

theorem exec_inAxDx {s : State} (hf : s.mayFinish .inAxDx = true) (h : s.portsAnswer .inAxDx = true) :
    exec .inAxDx s = .next (((s.answer.2.see (.ioRead [(s.r16 .dx, loByte s.answer.1),
      (s.r16 .dx + 1, hiByte s.answer.1)])).setR16 .ax s.answer.1).atEnd .inAxDx) := by
  obtain ⟨hread, -⟩ := (s.portsAnswer_iff _).1 h
  have hio := ioRead_word (hread (s.r16 .dx) (by simp [State.portsRead])) (hread _ (by simp [State.portsRead]))
  refine straight_ok (body := do
    let v ← ioRead (← regSource .dx) 2
    update fun s => s.setR16 .ax v) hf (by rw [regSource, run_view_bind, run_bind_ok hio, run_update]) ?_ ?_
  · rw [State.flag_setR16]
    exact State.flag_answer s .tf
  · simpa using s.answer_eip

theorem exec_outDxAx {s : State} (hf : s.mayFinish .outDxAx = true) (h : s.portsAnswer .outDxAx = true) :
    exec .outDxAx s = .next
      ((s.see (.ioWrite [(s.r16 .dx, s.r8 .al), (s.r16 .dx + 1, s.r8 .ah)])).atEnd .outDxAx) := by
  obtain ⟨-, hwrite⟩ := (s.portsAnswer_iff _).1 h
  have hio := ioWrite_word (s.r16 .ax) (hwrite (s.r16 .dx) (by simp [State.portsWritten]))
    (hwrite _ (by simp [State.portsWritten]))
  exact straight_ok (body := do
    let port ← regSource .dx
    ioWrite port 2 (← regSource .ax)) hf (by rw [regSource, run_view_bind, regSource, run_view_bind, hio]; rfl)
    rfl rfl

/-- Settles O28: one access each, the byte forms by AL, the word forms by AX. -/
theorem portResult : Obligations.PortResult := by
  intro s i p hf h
  obtain ⟨hread, hwrite⟩ := (s.portsAnswer_iff i).1 h
  refine ⟨?_, ?_, ?_, ?_, ?_, ?_⟩ <;> rintro rfl
  · exact exec_inByte (body := readPortByte (portOf p)) hf rfl rfl (hread _ (by simp [State.portsRead]))
  · exact exec_inByte (body := regSource .dx >>= readPortByte) hf rfl rfl (hread _ (by simp [State.portsRead]))
  · exact exec_inAxDx hf h
  · exact exec_outByte (body := writePortByte (portOf p)) hf rfl rfl (hwrite _ (by simp [State.portsWritten]))
  · exact exec_outByte (body := regSource .dx >>= writePortByte) hf rfl rfl (hwrite _ (by simp [State.portsWritten]))
  · exact exec_outDxAx hf h

end Sys2Proof.Machine
end

section
/-! PROOFS. Words of memory, of volatile regions and of regions that drop a store: O36. -/

namespace Sys2Proof.Machine

/-! ### Bytes of a word and their addresses (R77) -/

theorem loByte_eq (v : Word) : v.setWidth 8 = loByte v := by
  apply BitVec.eq_of_getLsbD_eq
  intro i hi
  simp [loByte, hi]

theorem hiByte_eq (v : Word) : (v >>> 8).setWidth 8 = hiByte v := by
  apply BitVec.eq_of_getLsbD_eq
  intro i hi
  simp [hiByte, hi]

/-- The mask of A20M# leaves bit 0, so the two bytes of a word never fold into one (R78). -/
theorem State.phys_mod_two (s : State) (lin : Dword) : s.phys lin % 2 = lin.toNat % 2 := by
  cases h : s.latch.a20Mask with
  | false => rw [State.phys_unmasked h]
  | true =>
    rw [State.phys_masked h, BitVec.toNat_and, ← Nat.and_one_is_mod, Nat.and_assoc]
    exact (congrArg (lin.toNat &&& ·) (by decide)).trans (Nat.and_one_is_mod _)

theorem State.phys_succ_ne (s : State) (lin : Dword) : s.phys (lin + 1) ≠ s.phys lin := by
  intro h
  have h0 := s.phys_mod_two lin
  have h1 := s.phys_mod_two (lin + 1)
  have hadd : (lin + 1).toNat = (lin.toNat + 1) % 2 ^ 32 := BitVec.toNat_add lin 1
  omega

/-! ### Reads (R74, R86) -/

/-- `t` differs from `s` at most in what the platform has answered and seen. -/
def State.Asked (s t : State) : Prop :=
  ∃ answers draws trace, t = { s with answers := answers, draws := draws, trace := trace }

theorem State.asked_answer (s : State) : s.Asked s.answer.2 := by
  unfold State.answer
  cases s.answers <;> exact ⟨_, _, _, rfl⟩

theorem State.Asked.trans {s t u : State} (h : s.Asked t) (k : t.Asked u) : s.Asked u := by
  obtain ⟨_, _, _, rfl⟩ := h
  obtain ⟨_, _, _, rfl⟩ := k
  exact ⟨_, _, _, rfl⟩

/-- Where a byte answers it is answered, and the read answers it and asks the platform alone. -/
theorem State.byteRead_some {s t : State} {lin : Dword} {v : Byte} (h : s.byteRead lin = some (v, t)) :
    s.answered lin = true ∧ readByte lin s = .ok (v, t) ∧ s.Asked t := by
  by_cases hk : s.board.kindAt (s.phys lin) = .volatile
  · simp only [State.byteRead, hk, Option.some.injEq, Prod.mk.injEq] at h
    obtain ⟨rfl, rfl⟩ := h
    exact ⟨by simp [State.answered, hk, RegionKind.answersRead], readByte_volatile hk,
      s.asked_answer.trans ⟨_, _, _, rfl⟩⟩
  · have hb : s.byteRead lin = (s.peekByte lin).map fun v => (v, s) := by
      unfold State.byteRead
      split
      · next hv => exact absurd hv hk
      · rfl
    obtain ⟨w, hw, he⟩ := Option.map_eq_some_iff.1 (hb.symm.trans h)
    cases he
    exact ⟨State.answered_of_peek hw, readByte_peek hw, _, _, _, rfl⟩

/-- A word of which both bytes answer is read. -/
theorem State.wordRead_some {s t : State} {lin : Dword} {v : Word} (h : s.wordRead lin = some (v, t)) :
    readWord lin s = .ok (v, t) ∧ s.Asked t := by
  obtain ⟨⟨lo, u⟩, hlo, h⟩ := Option.bind_eq_some_iff.1 h
  obtain ⟨⟨hi, w⟩, hhi, h⟩ := Option.bind_eq_some_iff.1 h
  cases h
  obtain ⟨ha, hr, hu⟩ := State.byteRead_some hlo
  obtain ⟨ha', hr', hw⟩ := State.byteRead_some hhi
  refine ⟨?_, hu.trans hw⟩
  have ha' : s.answered (lin + 1) = true := by
    obtain ⟨_, _, _, rfl⟩ := hu
    exact ha'
  rw [readWord, run_need_bind _ (by rw [ha, ha']; rfl), run_bind_ok hr, run_bind_ok hr', run_pure]

/-! ### Stores (R75, R90) -/

theorem State.byteStored_ram {s : State} {lin : Dword} (v : Byte) (h : s.board.kindAt (s.phys lin) = .ram) :
    s.byteStored lin v = s.poke (s.phys lin) v := if_pos h

theorem State.byteStored_other {s : State} {lin : Dword} (v : Byte) (h : s.board.kindAt (s.phys lin) ≠ .ram) :
    s.byteStored lin v = s.handOver (s.phys lin) v := if_neg h

theorem writeByte_ok {s : State} {lin : Dword} (v : Byte) (h : s.accepted lin = true) :
    writeByte lin v s = .ok ((), s.byteStored lin v) := by
  by_cases hk : s.board.kindAt (s.phys lin) = .ram
  · rw [writeByte_ram v hk, State.byteStored_ram v hk]
  · rw [writeByte_handOver v h hk, State.byteStored_other v hk]

/-- A store of a byte changes memory, `dirty_code` and the record of accesses, and nothing else. -/
theorem State.byteStored_frame (s : State) (lin : Dword) (v : Byte) :
    ∃ mem dirty trace, s.byteStored lin v = { s with mem := mem, dirty := dirty, trace := trace } := by
  unfold State.byteStored
  split <;> exact ⟨_, _, _, rfl⟩

theorem State.byteStored_phys (s : State) (lin a : Dword) (v : Byte) : (s.byteStored lin v).phys a = s.phys a := by
  obtain ⟨_, _, _, e⟩ := s.byteStored_frame lin v
  rw [e]
  rfl

theorem State.byteStored_board (s : State) (lin : Dword) (v : Byte) : (s.byteStored lin v).board = s.board := by
  obtain ⟨_, _, _, e⟩ := s.byteStored_frame lin v
  rw [e]

theorem State.byteStored_dirty (s : State) (lin : Dword) (v : Byte) (a : Nat) :
    a ∈ (s.byteStored lin v).dirty ↔ a ∈ s.dirty ∨ a = s.phys lin := by
  have h : (s.byteStored lin v).dirty = setInsert s.dirty (s.phys lin) := by
    unfold State.byteStored
    split <;> rfl
  rw [h, setInsert_mem, or_comm]

/-- A store of a byte leaves every other byte of memory, and all of it where the byte does not go to RAM. -/
theorem State.byteStored_get (s : State) (lin : Dword) (v : Byte) {a : Nat}
    (h : s.board.kindAt a = .ram → a ≠ s.phys lin) :
    Memory.get (s.byteStored lin v).mem a = Memory.get s.mem a := by
  by_cases hk : s.board.kindAt (s.phys lin) = .ram
  · have ha : a ≠ s.phys lin := by
      rintro rfl
      exact h hk rfl
    rw [State.byteStored_ram v hk]
    exact (Memory.get_set s.mem _ a v).trans (if_neg ha)
  · rw [State.byteStored_other v hk]
    rfl

theorem State.wordStored_eq (s : State) (lin : Dword) (v : Word) :
    s.wordStored lin v = (s.byteStored lin (loByte v)).byteStored (lin + 1) (hiByte v) := by
  rw [State.wordStored, loByte_eq, hiByte_eq]

theorem State.wordStored_frame (s : State) (lin : Dword) (v : Word) :
    ∃ mem dirty trace, s.wordStored lin v = { s with mem := mem, dirty := dirty, trace := trace } := by
  rw [State.wordStored_eq]
  obtain ⟨_, _, _, e⟩ := s.byteStored_frame lin (loByte v)
  rw [e]
  exact State.byteStored_frame _ _ _

/-- A word of which both bytes complete is stored. -/
theorem writeWord_ok {s : State} {lin : Dword} (v : Word) (h : (s.accepted lin && s.accepted (lin + 1)) = true) :
    writeWord lin v s = .ok ((), s.wordStored lin v) := by
  obtain ⟨hlo, hhi⟩ := Bool.and_eq_true_iff.1 h
  have hhi' : (s.byteStored lin (loByte v)).accepted (lin + 1) = true := by
    rwa [State.accepted, State.byteStored_phys, State.byteStored_board]
  rw [writeWord, run_need_bind _ h, run_bind_ok (writeByte_ok _ hlo), writeByte_ok _ hhi', State.wordStored_eq]

theorem State.mem_wordAt (s : State) (lin : Dword) (a : Nat) :
    a ∈ s.wordAt lin ↔ a = s.phys lin ∨ a = s.phys (lin + 1) := by
  simp [State.wordAt]

theorem State.wordStored_dirty (s : State) (lin : Dword) (v : Word) (a : Nat) :
    a ∈ (s.wordStored lin v).dirty ↔ a ∈ s.dirty ∨ a ∈ s.wordAt lin := by
  rw [State.wordStored_eq, State.byteStored_dirty, State.byteStored_dirty, State.byteStored_phys, State.mem_wordAt,
    or_assoc]

theorem State.wordStored_get (s : State) (lin : Dword) (v : Word) {a : Nat}
    (h : s.board.kindAt a = .ram → a ∉ s.wordAt lin) :
    Memory.get (s.wordStored lin v).mem a = Memory.get s.mem a := by
  simp only [State.mem_wordAt, not_or] at h
  rw [State.wordStored_eq, State.byteStored_get, State.byteStored_get _ _ _ fun hr => (h hr).1]
  rw [State.byteStored_phys, State.byteStored_board]
  exact fun hr => (h hr).2

/-! ### A word stored to RAM reads back -/

theorem State.peekByte_ram {s : State} {lin : Dword} (h : s.board.kindAt (s.phys lin) = .ram) :
    s.peekByte lin = Memory.get s.mem (s.phys lin) := by
  rw [State.peekByte, h]

theorem State.pokeWord_phys (s : State) (lin a : Dword) (v : Word) : (s.pokeWord lin v).phys a = s.phys a := rfl

theorem State.pokeWord_peek_low {s : State} {lin : Dword} (v : Word) (h : s.storable lin = true) :
    (s.pokeWord lin v).peekByte lin = some (loByte v) := by
  simp only [State.storable, Bool.and_eq_true, decide_eq_true_eq] at h
  rw [State.peekByte_ram (by exact h.1), State.pokeWord_mem, State.pokeWord_phys, Memory.get_set,
    if_neg (s.phys_succ_ne lin).symm, Memory.get_set, if_pos rfl]

theorem State.pokeWord_peek_high {s : State} {lin : Dword} (v : Word) (h : s.storable lin = true) :
    (s.pokeWord lin v).peekByte (lin + 1) = some (hiByte v) := by
  simp only [State.storable, Bool.and_eq_true, decide_eq_true_eq] at h
  rw [State.peekByte_ram (by exact h.2), State.pokeWord_mem, State.pokeWord_phys, Memory.get_set, if_pos rfl]

theorem State.pokeWord_peekWord {s : State} {lin : Dword} (v : Word) (h : s.storable lin = true) :
    (s.pokeWord lin v).peekWord lin = some v := by
  simp only [State.peekWord, State.pokeWord_peek_low v h, State.pokeWord_peek_high v h, joinBytes_split]

/-! ### MOV between a register and memory (R272, R273) -/

theorem locate_mem {s : State} {rm : Rm} {sg : Sreg} {off : Word} (hp : s.place rm = .mem sg off)
    (hl : s.inLimit sg off 2 = true) : locate rm s = .ok (.mem (s.linear sg off), s) := by
  rw [locate_eq, hp]
  exact locatePlace_ok (p := .mem sg off) hl

theorem exec_movRRm_mem {s t : State} {rm : Rm} {r : Reg} {sg : Sreg} {off v : Word} (hp : s.place rm = .mem sg off)
    (hl : s.inLimit sg off 2 = true) (hf : s.mayFinish (.movRRm r rm) = true)
    (h : s.wordRead (s.linear sg off) = some (v, t)) :
    exec (.movRRm r rm) s = .next ((t.setR16 r v).atEnd (.movRRm r rm)) := by
  obtain ⟨hr, hask⟩ := State.wordRead_some h
  have hbody : (do let v ← readRm rm; update fun s => s.setR16 r v : M Unit) s = .ok ((), t.setR16 r v) := by
    rw [run_bind_ok (a := v) (t := t) (by rw [readRm, run_bind_ok (locate_mem hp hl)]; exact hr), run_update]
  obtain ⟨_, _, _, rfl⟩ := hask
  exact straight_ok hf hbody (State.flag_setR16 _ r v .tf) (by simp)

theorem exec_movRmR_mem {s : State} {rm : Rm} {r : Reg} {sg : Sreg} {off : Word} (hp : s.place rm = .mem sg off)
    (hl : s.inLimit sg off 2 = true) (hf : s.mayFinish (.movRmR rm r) = true)
    (h : (s.accepted (s.linear sg off) && s.accepted (s.linear sg off + 1)) = true) :
    exec (.movRmR rm r) s = .next ((s.wordStored (s.linear sg off) (s.r16 r)).atEnd (.movRmR rm r)) := by
  have hbody : (do let l ← locate rm; writeLoc l (← regSource r) : M Unit) s =
      .ok ((), s.wordStored (s.linear sg off) (s.r16 r)) := by
    rw [run_bind_ok (locate_mem hp hl), regSource, run_view_bind]
    exact writeWord_ok _ h
  obtain ⟨_, _, _, e⟩ := s.wordStored_frame (s.linear sg off) (s.r16 r)
  exact straight_ok hf hbody (by rw [e]; rfl) (by rw [e])

/-- Settles O36: what a word read and a word stored leave, byte by byte. -/
theorem storeThenLoad : Obligations.StoreThenLoad := by
  refine ⟨fun s lin v t h => ?_, fun s lin v h => ⟨writeWord_ok v h, s.wordStored_dirty lin v, fun a ha => ?_⟩,
    fun s rm r sg off hp hl => ⟨fun v t hf h => exec_movRRm_mem hp hl hf h, fun hf h => exec_movRmR_mem hp hl hf h⟩,
    fun s lin v h => ?_⟩
  · obtain ⟨hr, _, _, _, rfl⟩ := State.wordRead_some h
    exact ⟨hr, rfl, rfl, rfl, rfl, rfl⟩
  · exact s.wordStored_get lin v ha
  · rw [loByte_eq, hiByte_eq]
    exact ⟨_, writeWord_ram v h, State.pokeWord_peekWord v h, State.pokeWord_peek_low v h,
      State.pokeWord_peek_high v h, fun a => State.pokeWord_get, State.pokeWord_wf lin v⟩

end Sys2Proof.Machine
end

section
/-! PROOFS. How many bytes the decoder needs (R105, R108). -/

namespace Sys2Proof

/-- From `n` bytes on an answer comes without asking for more. -/
def Suffices (n : Nat) (k : List Byte → Decoded) : Prop := ∀ bs, k bs = .more → bs.length < n

theorem suffices_instr (n : Nat) (i : Instr) : Suffices n (fun bs => .instr i bs) := fun _ h => by cases h

theorem suffices_refused (n : Nat) (r : RefusedEncoding) : Suffices n (fun _ => .refused r) := fun _ h => by cases h

theorem Suffices.mono {n m : Nat} {k : List Byte → Decoded} (h : Suffices n k) (hm : n ≤ m) : Suffices m k :=
  fun bs hb => Nat.lt_of_lt_of_le (h bs hb) hm

theorem suffices_takeByte {n : Nat} {k : Byte → List Byte → Decoded} (h : ∀ b, Suffices n (k b)) :
    Suffices (n + 1) (fun bs => takeByte bs k) := by
  intro bs hb
  cases bs with
  | nil => exact Nat.succ_pos n
  | cons b t => exact Nat.succ_lt_succ (h b t hb)

theorem suffices_takeWord {n : Nat} {k : Word → List Byte → Decoded} (h : ∀ w, Suffices n (k w)) :
    Suffices (n + 2) (fun bs => takeWord bs k) := by
  intro bs hb
  match bs with
  | [] => exact Nat.succ_pos _
  | [_] => exact Nat.succ_lt_succ (Nat.succ_pos _)
  | lo :: hi :: t => exact Nat.succ_lt_succ (Nat.succ_lt_succ (h _ t hb))

/-- The same of what the `reg` field of ModRM selects. -/
def RegArm.Suffices (n : Nat) : RegArm → Prop
  | .refuse _ => True
  | .take k => ∀ rm, Sys2Proof.Suffices n (k rm)

/-- A ModRM byte and at most two of a displacement (R107). -/
theorem suffices_takeModRm {n : Nat} {arm : Nat → RegArm} (h : ∀ g, (arm g).Suffices n) :
    Suffices (n + 3) (fun bs => takeModRm bs arm) := by
  refine suffices_takeByte (n := n + 2) fun m => ?_
  have hg := h (m.extractLsb' 3 3).toNat
  cases ha : arm (m.extractLsb' 3 3).toNat with
  | refuse r => exact suffices_refused _ r
  | take k =>
    rw [ha] at hg
    dsimp only
    split
    · split
      · exact suffices_takeWord fun _ => hg _
      · exact (hg _).mono (Nat.le_add_right _ _)
    · exact (suffices_takeByte fun _ => hg _).mono (Nat.le_succ _)
    · exact suffices_takeWord fun _ => hg _
    · exact (hg _).mono (Nat.le_add_right _ _)

theorem suffices_armM (f : Rm → Instr) : (armM f).Suffices 2 := fun _ => suffices_instr _ _

theorem suffices_armMI8 (f : Rm → Byte → Instr) : (armMI8 f).Suffices 2 :=
  fun _ => suffices_takeByte fun _ => suffices_instr _ _

theorem suffices_armMI16 (f : Rm → Word → Instr) : (armMI16 f).Suffices 2 :=
  fun _ => suffices_takeWord fun _ => suffices_instr _ _

theorem suffices_group81 (g : Nat) : (group81 g).Suffices 2 := by
  unfold group81; split <;> exact suffices_armMI16 _

theorem suffices_group83 (g : Nat) : (group83 g).Suffices 2 := by
  unfold group83; split <;> exact suffices_armMI8 _

theorem suffices_groupC1 (g : Nat) : (groupC1 g).Suffices 2 := by
  unfold groupC1; split
  case h_4 => trivial
  all_goals exact suffices_armMI8 _

theorem suffices_groupD1 (g : Nat) : (groupD1 g).Suffices 2 := by
  unfold groupD1; split
  case h_4 => trivial
  all_goals exact suffices_armM _

theorem suffices_groupD3 (g : Nat) : (groupD3 g).Suffices 2 := by
  unfold groupD3; split
  case h_4 => trivial
  all_goals exact suffices_armM _

theorem suffices_groupC7 (g : Nat) : (groupC7 g).Suffices 2 := by
  unfold groupC7; split
  · exact suffices_armMI16 _
  · trivial

theorem suffices_groupF7 (g : Nat) : (groupF7 g).Suffices 2 := by
  unfold groupF7; split
  case h_1 => exact suffices_armMI16 _
  case h_2 => trivial
  all_goals exact suffices_armM _

theorem suffices_formM (f : Rm → Reg → Instr) : Suffices 5 (fun bs => formM bs f) :=
  suffices_takeModRm fun _ _ => suffices_instr 2 _

theorem suffices_formSreg (f : Rm → SregField → Instr) : Suffices 5 (fun bs => formSreg bs f) :=
  suffices_takeModRm fun _ _ => suffices_instr 2 _

theorem suffices_formI8 (f : Byte → Instr) : Suffices 5 (fun bs => formI8 bs f) :=
  suffices_takeByte fun _ => suffices_instr 4 _

theorem suffices_formI16 (f : Word → Instr) : Suffices 5 (fun bs => formI16 bs f) :=
  suffices_takeWord fun _ => suffices_instr 3 _

theorem suffices_decodeOpcode (b : Byte) : Suffices 5 (decodeOpcode b) := by
  show Suffices 5 (fun bs => decodeOpcode b bs)
  unfold decodeOpcode
  split
  all_goals first
    | exact suffices_instr _ _
    | exact suffices_refused _ _
    | exact suffices_formM _
    | exact suffices_formSreg _
    | exact suffices_formI8 _
    | exact suffices_formI16 _
    | exact suffices_takeModRm suffices_group81
    | exact suffices_takeModRm suffices_group83
    | exact suffices_takeModRm suffices_groupC1
    | exact suffices_takeModRm suffices_groupD1
    | exact suffices_takeModRm suffices_groupD3
    | exact suffices_takeModRm suffices_groupC7
    | exact suffices_takeModRm suffices_groupF7
    | exact suffices_takeWord fun _ => suffices_takeWord fun _ => suffices_instr 1 _
    | (refine suffices_takeByte (n := 4) fun _ => ?_; split; exact suffices_instr _ _; exact suffices_refused _ _)

/-- Six bytes decode to an instruction or a refusal (R105). -/
theorem suffices_decodeBytes : Suffices 6 decodeBytes := by
  intro bs h
  cases bs with
  | nil => exact Nat.succ_pos 5
  | cons b t => exact Nat.succ_lt_succ (suffices_decodeOpcode b t h)

/-- Bytes that ask for more did so before the last of them came. -/
theorem decodeBytes_more_prefix {bs more : List Byte} (h : decodeBytes (bs ++ more) = .more) :
    decodeBytes bs = .more := by
  cases hd : decodeBytes bs with
  | instr i rest => rw [decodeBytes_append hd more] at h; cases h
  | refused n => rw [decodeBytes_append_refused hd more] at h; cases h
  | more => rfl

end Sys2Proof
end

section
/-! PROOFS. What a fetch does with each byte it needs (R90, R108): O5. -/

namespace Sys2Proof.Machine

/-! ### One byte -/

theorem fetchByte_ok {s : State} {k : Nat} {b : Byte} (h : s.fetches k b) : fetchByte k s = .ok (b, s) := by
  obtain ⟨hlen, hclean, hpeek⟩ := h
  rw [fetchByte, run_view_bind, if_neg (by omega)]
  simp only [run_view_bind]
  rw [if_neg (by simpa using hclean)]
  exact readByte_peek hpeek

theorem fetchByte_past {s : State} {k : Nat} (h : 0xFFFF < s.ip.toNat + k) :
    fetchByte k s = .error (.fault .fetchPastLimit) := by
  rw [fetchByte, run_view_bind, if_pos h, run_stopFault]

theorem fetchByte_stale {s : State} {k : Nat} (h : s.ip.toNat + k ≤ 0xFFFF)
    (hd : s.phys (s.linear .cs (s.ip + BitVec.ofNat 16 k)) ∈ s.dirty) :
    fetchByte k s = .error (.fault (.staleFetch (s.phys (s.linear .cs (s.ip + BitVec.ofNat 16 k))))) := by
  rw [fetchByte, run_view_bind, if_neg (by omega)]
  simp only [run_view_bind]
  rw [if_pos (by simpa using hd), run_stopFault]

/-- A byte that nothing answers sticks the core (R74). -/
theorem readByte_stuck {s : State} {lin : Dword} (h : s.answered lin = false) : readByte lin s = .error (.stuck s) :=
  run_need_stuck _ h

theorem fetchByte_stuck {s : State} {k : Nat} (h : s.ip.toNat + k ≤ 0xFFFF)
    (hd : s.phys (s.linear .cs (s.ip + BitVec.ofNat 16 k)) ∉ s.dirty)
    (ha : s.answered (s.linear .cs (s.ip + BitVec.ofNat 16 k)) = false) : fetchByte k s = .error (.stuck s) := by
  rw [fetchByte, run_view_bind, if_neg (by omega)]
  simp only [run_view_bind]
  rw [if_neg (by simpa using hd)]
  exact readByte_stuck ha

/-! ### Byte after byte -/

/-- A fetch takes the bytes `got`, as long as they ask for more, with no effect. -/
theorem fetchFrom_taken {s : State} {got : List Byte} (hd : decodeBytes got = .more)
    (hf : ∀ (k : Nat) (h : k < got.length), s.fetches k got[k]) (n : Nat) :
    fetchFrom (n + got.length) [] s = fetchFrom n got s := by
  induction got using List.reverseRecOn generalizing n with
  | nil => rfl
  | append_singleton got b ih =>
    have hd' := decodeBytes_more_prefix hd
    have hf' : ∀ (k : Nat) (h : k < got.length), s.fetches k got[k] := fun k h => by
      have := hf k (by rw [List.length_append]; omega)
      rwa [List.getElem_append_left h] at this
    have hb : s.fetches got.length b := by
      have := hf got.length (by simp)
      rwa [List.getElem_concat_length rfl] at this
    rw [List.length_append, List.length_singleton, Nat.add_comm got.length 1, ← Nat.add_assoc, ih hd' hf' (n + 1),
      fetchFrom]
    simp only [hd', run_bind_ok (fetchByte_ok hb)]

/-- Where the next byte a fetch needs cannot be fetched the fetch ends as that byte does. -/
theorem fetch_error {s : State} {got : List Byte} {e : Stop} (hd : decodeBytes got = .more)
    (hf : ∀ (k : Nat) (h : k < got.length), s.fetches k got[k]) (he : fetchByte got.length s = .error e) :
    fetch s = .error e := by
  have hlen := suffices_decodeBytes got hd
  have hfuel : 7 = (6 - got.length) + 1 + got.length := by omega
  rw [fetch, hfuel, fetchFrom_taken hd hf, fetchFrom]
  simp only [hd, run_bind_error he]

/-! ### The step -/

/-- A core that is free to run fetches and executes (R260). -/
theorem State.ready_step {s : State} (h : s.ready = true) : step s = settle (executeNext s) := by
  simp only [State.ready, Bool.and_eq_true, Bool.not_eq_true', decide_eq_true_eq, List.isEmpty_iff] at h
  obtain ⟨⟨⟨⟨⟨⟨⟨hsched, hreset⟩, htaken⟩, hneeds⟩, hmode⟩, hbreak⟩, hrun⟩, hevents⟩ := h
  simp [step, advance, hsched, coreStep, hreset, htaken, hneeds, hmode, hbreak, hrun, hevents]

/-- Settles O5: the bytes before it are taken, and the byte itself faults. -/
theorem neededByteFaults : Obligations.NeededByteFaults := by
  refine fun s got hr hd hf => ⟨fun hp => ?_, fun hl hs => ?_⟩
  · rw [State.ready_step hr, executeNext, fetch_error hd hf (fetchByte_past hp)]
    rfl
  · rw [State.ready_step hr, executeNext, fetch_error hd hf (fetchByte_stale hl hs)]
    rfl

end Sys2Proof.Machine
end

section
/-! PROOFS. What an access that fails or is not answered does to an instruction (R74, R75, R79): O19, O35. -/

namespace Sys2Proof.Machine

/-! ### Instructions whose body stops -/

/-- The body of the instruction stops by `e`. -/
def Blocked (i : Instr) (s : State) (e : Stop) : Prop :=
  ∃ body : M Shadow, exec i s = straightShadow i body s ∧ body s = .error e

theorem Blocked.of_unit {i : Instr} {s : State} {e : Stop} {body : M Unit} (hm : exec i s = straight i body s)
    (h : body s = .error e) : Blocked i s e := ⟨_, hm, run_bind_error h⟩

/-- An instruction whose body sticks leaves the core stuck (R74). -/
theorem Blocked.stuck {i : Instr} {s t : State} (h : Blocked i s (.stuck t)) (hp : s.pastLimit i = false) :
    exec i s = .next t.stick := by
  obtain ⟨body, hm, he⟩ := h
  rw [hm, straightShadow, if_neg (by simp [hp]), he, conclude_stuck]

/-- One whose body raises takes that exception (R361). -/
theorem Blocked.raise {i : Instr} {s t : State} {e : Exc} (h : Blocked i s (.raise e t))
    (hp : s.pastLimit i = false) : exec i s = deliverFault e t := by
  obtain ⟨body, hm, he⟩ := h
  rw [hm, straightShadow, if_neg (by simp [hp]), he, conclude_raise]

/-! ### Operands that are not read or not written -/

/-- A located operand of which the read stops. -/
theorem locate_read_error {s : State} {rm : Rm} {e : Stop} (h : readRm rm s = .error e) {β : Type}
    (f : Loc → Word → M β) : (do let l ← locate rm; let v ← readLoc l; f l v : M β) s = .error e := by
  rw [readRm, run_bind] at h
  cases hl : locate rm s with
  | error e' =>
    rw [hl] at h
    rw [run_bind_error hl]
    exact congrArg _ (Except.error.inj h)
  | ok p =>
    rw [hl] at h
    have hr : readLoc p.1 p.2 = .error e := h
    rw [run_bind_ok hl, run_bind_error hr]

theorem readRm_limit {s : State} {rm : Rm} {sg : Sreg} {off : Word} (hp : s.place rm = .mem sg off)
    (hl : s.inLimit sg off 2 = false) : readRm rm s = .error (.raise (limitExc sg) s) := by
  rw [readRm, run_bind_error (by rw [locate_eq, hp]; exact locatePlace_fail hl)]

theorem readRm_stuck {s : State} {rm : Rm} {sg : Sreg} {off : Word} (hp : s.place rm = .mem sg off)
    (hl : s.inLimit sg off 2 = true)
    (h : (s.answered (s.linear sg off) && s.answered (s.linear sg off + 1)) = false) :
    readRm rm s = .error (.stuck s) := by
  rw [readRm, run_bind_ok (locate_mem hp hl)]
  exact readWord_stuck h

/-- A store that nothing takes sticks the core in the state the store was begun in (R75). -/
theorem writeLoc_stuck {s : State} {p : Place} {sg : Sreg} {off : Word} (v : Word) (n : Nat) (hp : p = .mem sg off)
    (h : (s.accepted (s.linear sg off) && s.accepted (s.linear sg off + 1)) = false) :
    writeLoc (s.locOf p) v (s.drew n) = .error (.stuck (s.drew n)) := by
  subst hp
  exact writeWord_stuck (s := s.drew n) v h

/-! ### The instructions with an r/m operand -/

/-- The instruction reads its r/m operand before it does anything else. -/
def ReadsFirst (i : Instr) (rm : Rm) : Prop :=
  ∀ s : State, s.readBy i ≠ [] ∧ ∀ e, readRm rm s = .error e → Blocked i s e

/-- The instruction stores to its r/m operand a value it reads from no memory. -/
def StoresOnly (i : Instr) (rm : Rm) : Prop :=
  ∃ g : State → Word, ∀ s : State, s.readBy i = [] ∧ s.target i = some (s.place rm) ∧
    exec i s = straight i (do let l ← locate rm; writeLoc l (← view g)) s

theorem StoresOnly.limit {i : Instr} {rm : Rm} (h : StoresOnly i rm) {s : State} {sg : Sreg} {off : Word}
    (hp : s.place rm = .mem sg off) (hl : s.inLimit sg off 2 = false) : Blocked i s (.raise (limitExc sg) s) := by
  obtain ⟨g, h⟩ := h
  obtain ⟨-, -, hm⟩ := h s
  exact .of_unit hm (run_bind_error (by rw [locate_eq, hp]; exact locatePlace_fail hl))

theorem StoresOnly.stuck {i : Instr} {rm : Rm} (h : StoresOnly i rm) {s : State} {sg : Sreg} {off : Word}
    (hp : s.place rm = .mem sg off) (hl : s.inLimit sg off 2 = true)
    (ha : (s.accepted (s.linear sg off) && s.accepted (s.linear sg off + 1)) = false) : Blocked i s (.stuck s) := by
  obtain ⟨g, h⟩ := h
  obtain ⟨-, -, hm⟩ := h s
  refine .of_unit hm ?_
  rw [run_bind_ok (locate_mem hp hl), run_view_bind]
  exact writeWord_stuck _ ha

theorem twoOperandBody_dst_error {s : State} {o : AluOp} {dst : Rm} {src : Source} {e : Stop}
    (h : readRm dst s = .error e) : twoOperandBody o dst src s = .error e := by
  cases hw : o.writes with
  | true => rw [twoOperandBody, if_pos hw, locate_read_error h]
  | false => rw [twoOperandBody, if_neg (by simp [hw]), run_bind_error h]

theorem twoOperandBody_src_error {s : State} {o : AluOp} {dst : Rm} {src : Source} {a : Word} {e : Stop}
    (ha : s.holdsAt (s.place dst) = some a) (h : src.read s = .error e) : twoOperandBody o dst src s = .error e := by
  cases hw : o.writes with
  | true => rw [twoOperandBody, if_pos hw, locate_read ha, run_bind_error h]
  | false => rw [twoOperandBody, if_neg (by simp [hw]), run_bind_ok (readRm_ok ha), run_bind_error h]

theorem readsFirst_twoOperand {i : Instr} {o : AluOp} {dst rm : Rm} {src : Source}
    (h : twoOperand i = some (o, dst, src)) (hr : rmOperand i = some rm) : ReadsFirst i rm := by
  refine fun s => ⟨by simp only [State.readBy, h]; cases src <;> simp, fun e he => ?_⟩
  refine .of_unit (exec_twoOperand h s) ?_
  simp only [rmOperand, h] at hr
  split at hr
  · next hd =>
    simp only [Option.some.injEq, Prod.mk.injEq] at hd hr
    obtain ⟨-, rfl, rfl⟩ := hd
    subst hr
    exact twoOperandBody_src_error (a := s.r16 _) rfl he
  · next hd =>
    simp only [Option.some.injEq, Prod.mk.injEq] at hd hr
    obtain ⟨-, rfl, rfl⟩ := hd
    subst hr
    exact twoOperandBody_dst_error he
  · next hd => cases hd

theorem readsFirst_shift {i : Instr} {o : ShiftOp} {rm : Rm} {count : State → Byte} (h2 : twoOperand i = none)
    (h : shiftForm i = some (o, rm, count)) : ReadsFirst i rm := fun s =>
  ⟨by simp [State.readBy, h2, h], fun _ he => .of_unit (exec_shift h s) (locate_read_error he _)⟩

theorem readsFirst_movSregRm {r : Sreg} (h : r ≠ .cs) (rm : Rm) : ReadsFirst (.movSregRm (.seg r) rm) rm :=
  fun s => ⟨List.cons_ne_nil _ _, fun _ he => ⟨_, exec_movSregRm (loadTarget_seg h) rm s, run_bind_error he⟩⟩

/-- An instruction whose body begins with a read of its operand. -/
theorem readsFirst_read {i : Instr} {rm : Rm} {f : Word → M Unit}
    (hm : ∀ s, exec i s = straight i (readRm rm >>= f) s) (hr : ∀ s : State, s.readBy i = [s.place rm]) :
    ReadsFirst i rm := fun s => ⟨by rw [hr]; simp, fun _ he => .of_unit (hm s) (run_bind_error he)⟩

/-- The same where the operand is written later. -/
theorem readsFirst_locate {i : Instr} {rm : Rm} {f : Loc → Word → M Unit}
    (hm : ∀ s, exec i s = straight i (do let l ← locate rm; let v ← readLoc l; f l v) s)
    (hr : ∀ s : State, s.readBy i = [s.place rm]) : ReadsFirst i rm :=
  fun s => ⟨by rw [hr]; simp, fun _ he => .of_unit (hm s) (locate_read_error he f)⟩

theorem storesOnly {i : Instr} {rm : Rm} (g : State → Word)
    (hm : ∀ s, exec i s = straight i (do let l ← locate rm; writeLoc l (← view g)) s)
    (hr : ∀ s : State, s.readBy i = []) (ht : ∀ s : State, s.target i = some (s.place rm)) : StoresOnly i rm :=
  ⟨g, fun s => ⟨hr s, ht s, hm s⟩⟩

/-- Every instruction with an r/m operand reads it first or only stores to it. -/
theorem rmOperand_cases {i : Instr} {rm : Rm} (h : rmOperand i = some rm) : ReadsFirst i rm ∨ StoresOnly i rm := by
  cases h2 : twoOperand i with
  | some p => exact .inl (readsFirst_twoOperand h2 h)
  | none =>
  cases hs : shiftForm i with
  | some p =>
    simp only [rmOperand, h2, hs, Option.some.injEq] at h
    subst h
    exact .inl (readsFirst_shift h2 hs)
  | none =>
  cases i
  case notRm | negRm => cases h; exact .inl (readsFirst_locate (fun _ => rfl) fun _ => rfl)
  case mulRm | imulRm | divRm | idivRm | movRRm =>
    cases h; exact .inl (readsFirst_read (fun _ => rfl) fun _ => rfl)
  case movAxMoffs off =>
    cases h
    exact .inl (readsFirst_locate (f := fun _ v => update fun s => s.setR16 .ax v) (fun _ => rfl) fun _ => rfl)
  case movSregRm f _ =>
    cases f
    case seg r =>
      cases r
      case cs => cases h
      all_goals cases h; exact .inl (readsFirst_movSregRm (by decide) _)
    case six | seven => cases h
  case movRmR r => cases h; exact .inr (storesOnly _ (fun _ => rfl) (fun _ => rfl) fun _ => rfl)
  case movRmImm16 v => cases h; exact .inr (storesOnly (fun _ => v) (fun _ => rfl) (fun _ => rfl) fun _ => rfl)
  case movMoffsAx =>
    cases h; exact .inr (storesOnly (fun s => s.r16 .ax) (fun _ => rfl) (fun _ => rfl) fun _ => rfl)
  case movRmSreg f =>
    cases f
    case seg r =>
      cases h; exact .inr (storesOnly (fun s => (s.seg r).sel) (fun _ => rfl) (fun _ => rfl) fun _ => rfl)
    case six | seven => cases h
  all_goals first | (cases h; done) | (cases h2; done) | cases hs

/-! ### Limit violations (R79, R341, R372) -/

/-- An operand past its segment's limit stops the instruction before anything else (R79, R111). -/
theorem blocked_limit {i : Instr} {rm : Rm} {s : State} {sg : Sreg} {off : Word} (h : rmOperand i = some rm)
    (hp : s.place rm = .mem sg off) (hl : s.inLimit sg off 2 = false) : Blocked i s (.raise (limitExc sg) s) := by
  obtain hr | hs := rmOperand_cases h
  · exact (hr s).2 _ (readRm_limit hp hl)
  · exact hs.limit hp hl

theorem State.inLimit_word (s : State) (sg : Sreg) (off : Word) :
    s.inLimit sg off 2 = false ↔ (s.seg sg).limit.toNat < off.toNat + 1 := by
  simp only [State.inLimit, decide_eq_false_iff_not]
  omega

/-- A pop past the limit of SS raises SS with nothing done (R264). -/
theorem peek16_fail {s : State} (h : s.inLimit .ss (s.r16 .sp) 2 = false) : peek16 s = .error (.raise .ss s) := by
  rw [peek16, run_view_bind, State.slotAbove_zero, run_bind_error (checkLimit_fail h)]
  rfl

theorem blocked_popR {s : State} {r : Reg} {e : Stop} (h : peek16 s = .error e) : Blocked (.popR r) s e :=
  .of_unit (body := pop16 >>= fun v => update fun s => s.setR16 r v) rfl
    (run_bind_error (by rw [pop16, run_bind_error h]))

theorem transfer_error {i : Instr} {body : M Flow} {s : State} {e : Stop} (h : body s = .error e) :
    transfer i body s = conclude (.error e) (follow i s) deliverFault := by rw [transfer, h]

theorem exec_ret_error {s : State} {e : Stop} (h : peek16 s = .error e) :
    exec .ret s = conclude (.error e) (follow .ret s) deliverFault := transfer_error (run_bind_error h)

theorem exec_iret_error {s : State} {e : Stop} (h : trapReturn s = .error e) :
    exec .iret s = conclude (.error e) (follow .iret s) deliverFault := transfer_error (run_bind_error h)

/-- A slot of IRET past the limit of SS raises SS with nothing read (R315). -/
theorem trapReturn_fail {s : State} (h : s.inLimit .ss (s.slotAbove 0) 2 = false ∨
    s.inLimit .ss (s.slotAbove 1) 2 = false ∨ s.inLimit .ss (s.slotAbove 2) 2 = false) :
    trapReturn s = .error (.raise .ss s) := by
  rw [trapReturn]
  simp only [run_view_bind]
  cases h0 : s.inLimit .ss (s.slotAbove 0) 2 with
  | false => rw [run_bind_error (checkLimit_fail h0)]; rfl
  | true =>
    rw [run_bind_ok (checkLimit_ok h0)]
    cases h1 : s.inLimit .ss (s.slotAbove 1) 2 with
    | false => rw [run_bind_error (checkLimit_fail h1)]; rfl
    | true =>
      rw [run_bind_ok (checkLimit_ok h1)]
      have h2 : s.inLimit .ss (s.slotAbove 2) 2 = false := by simpa [h0, h1] using h
      rw [run_bind_error (checkLimit_fail h2)]; rfl

/-- A trap entry whose first slot passes the stack limit raises an exception with nothing done, whether or not the
vector lies within the table (R366). -/
theorem trapEntry_raises {s : State} (n : Byte) (rip : Word) (h : s.inLimit .ss (s.slotBelow 1) 2 = false) :
    ∃ e, trapEntry n rip s = .error (.raise e s) := by
  by_cases hv : 4 * n.toNat + 3 > s.sys.idtr.limit.toNat
  · exact ⟨.gp, by rw [trapEntry, run_view_bind, if_pos hv, run_raise]⟩
  · exact ⟨.ss, trapEntry_noSlot rip (by omega) (.inl h)⟩

/-- Without a first slot neither entry of an event succeeds, and the core shuts down (R370, R372). -/
theorem deliver_shutDown {s : State} (n : Byte) (c : Bool) (rip : Word) (h : s.inLimit .ss (s.slotBelow 1) 2 = false) :
    deliver n c rip s = .next s.shutDown := by
  obtain ⟨e, he⟩ := trapEntry_raises n rip h
  obtain ⟨e', he'⟩ := trapEntry_raises (if c then 8 else e.vector) rip h
  rw [deliver, he, conclude_raise, he', conclude_raise]

theorem deliverFault_shutDown {s : State} (e : Exc) (h : s.inLimit .ss (s.slotBelow 1) 2 = false) :
    deliverFault e s = .next s.shutDown := deliver_shutDown _ _ _ h

theorem blocked_pushR {s : State} {r : Reg} {e : Stop} (h : push16 (s.r16 r) s = .error e) :
    Blocked (.pushR r) s e := .of_unit (body := regSource r >>= push16) rfl h

/-- CALL up to its push: the saved IP and the target are in order (R310). -/
theorem exec_callRel16_error {s : State} {rel : Word} {e : Stop} (hp : s.pastLimit (.callRel16 rel) = false)
    (ht : s.inLimit .cs (s.nextIp (.callRel16 rel) + rel) 1 = true)
    (h : push16 (s.nextIp (.callRel16 rel)) s = .error e) :
    exec (.callRel16 rel) s = conclude (.error e) (follow (.callRel16 rel) s) deliverFault :=
  transfer_error (by
    rw [run_bind_ok (savedIp_ok hp), run_view_bind, relTarget, run_bind_ok (checkTarget_ok ht), run_bind_error h])

/-- Settles O19: the limit check stops the instruction, and the exception is entered or shuts the core down. -/
theorem limitViolationTaken : Obligations.LimitViolationTaken := by
  refine ⟨fun i rm s sg off h hp hlim hpast => ?_, fun s r henter => ⟨fun h hp => ?_, fun h => ?_, fun h => ?_⟩,
    fun s r rel h => ⟨fun hp => ?_, fun hp ht => ?_⟩⟩
  · have hb := blocked_limit h hp ((s.inLimit_word sg off).2 hlim)
    refine ⟨fun hsg henter => ?_, fun hsg henter => ?_⟩
    · rw [limitExc, if_pos hsg] at hb
      rw [hb.raise hpast]
      exact deliverFault_entered (e := .ss) henter
    · rw [limitExc, if_neg hsg] at hb
      rw [hb.raise hpast]
      exact deliverFault_entered (e := .gp) henter
  · rw [(blocked_popR (peek16_fail h)).raise hp]
    exact deliverFault_entered (e := .ss) henter
  · rw [exec_ret_error (peek16_fail h), conclude_raise]
    exact deliverFault_entered (e := .ss) henter
  · have hslot : s.slotAbove 0 = s.r16 .sp := s.slotAbove_zero
    rw [exec_iret_error (trapReturn_fail (by rw [hslot]; exact h)), conclude_raise]
    exact deliverFault_entered (e := .ss) henter
  · rw [(blocked_pushR (push16_fail _ h)).raise hp, deliverFault_shutDown _ h]
    rfl
  · rw [exec_callRel16_error hp ht (push16_fail _ h), conclude_raise, deliverFault_shutDown _ h]
    rfl

end Sys2Proof.Machine
end

section
/-! PROOFS. An access that nothing answers sticks the core (R74 to R76): O35. -/

namespace Sys2Proof.Machine

/-! ### Operands and ports -/

/-- An operand read that is not answered (R74). -/
theorem blocked_read {i : Instr} {rm : Rm} {s : State} {sg : Sreg} {off : Word} (h : rmOperand i = some rm)
    (hp : s.place rm = .mem sg off) (hl : s.inLimit sg off 2 = true) (hr : s.place rm ∈ s.readBy i)
    (ha : (s.answered (s.linear sg off) && s.answered (s.linear sg off + 1)) = false) : Blocked i s (.stuck s) := by
  obtain hf | ⟨g, hs⟩ := rmOperand_cases h
  · exact (hf s).2 _ (readRm_stuck hp hl ha)
  · rw [(hs s).1] at hr
    cases hr

/-- A store of an instruction that reads no memory, where nothing takes it (R75). -/
theorem blocked_store {i : Instr} {rm : Rm} {s : State} {sg : Sreg} {off : Word} (h : rmOperand i = some rm)
    (hp : s.place rm = .mem sg off) (hl : s.inLimit sg off 2 = true) (hr : s.readBy i = [])
    (ha : (s.accepted (s.linear sg off) && s.accepted (s.linear sg off + 1)) = false) : Blocked i s (.stuck s) := by
  obtain hf | hs := rmOperand_cases h
  · exact absurd hr (hf s).1
  · exact hs.stuck hp hl ha

theorem ioRead_stuck {s : State} {port : Word} {n : Nat} (h : (portsFrom port n).all s.board.portAnswers = false) :
    ioRead port n s = .error (.stuck s) := run_need_stuck _ h

theorem ioWrite_stuck {s : State} {port : Word} {n : Nat} (v : Word)
    (h : (portsFrom port n).all s.board.portAccepts = false) : ioWrite port n v s = .error (.stuck s) :=
  run_need_stuck (β := Unit) _ h

theorem readPortByte_stuck {s : State} {port : Word} (h : s.board.portAnswers port = false) :
    readPortByte port s = .error (.stuck s) :=
  run_bind_error (ioRead_stuck (by rw [portsFrom_one, List.all_cons, h]; rfl))

theorem writePortByte_stuck {s : State} {port : Word} (h : s.board.portAccepts port = false) :
    writePortByte port s = .error (.stuck s) :=
  ioWrite_stuck _ (by rw [portsFrom_one, List.all_cons, h]; rfl)

theorem blocked_inByte {i : Instr} {body : M Unit} {s : State} {port : Word} (hm : exec i s = straight i body s)
    (hb : body s = readPortByte port s) (hr : s.portsRead i = [port]) (hw : s.portsWritten i = [])
    (h : s.portsAnswer i = false) :
    Blocked i s (.stuck s) :=
  .of_unit hm (hb.trans (readPortByte_stuck (by simpa [State.portsAnswer, hr, hw] using h)))

theorem blocked_outByte {i : Instr} {body : M Unit} {s : State} {port : Word} (hm : exec i s = straight i body s)
    (hb : body s = writePortByte port s) (hr : s.portsRead i = []) (hw : s.portsWritten i = [port])
    (h : s.portsAnswer i = false) :
    Blocked i s (.stuck s) :=
  .of_unit hm (hb.trans (writePortByte_stuck (by simpa [State.portsAnswer, hr, hw] using h)))

theorem blocked_inAxDx {s : State} (h : s.portsAnswer .inAxDx = false) : Blocked .inAxDx s (.stuck s) := by
  have hports : (portsFrom (s.r16 .dx) 2).all s.board.portAnswers = false := by
    rw [portsFrom_two]
    exact (Bool.and_true _).symm.trans h
  refine .of_unit (body := regSource .dx >>= fun port => ioRead port 2 >>= fun v => update fun s => s.setR16 .ax v)
    rfl ?_
  rw [regSource, run_view_bind, run_bind_error (ioRead_stuck hports)]

theorem blocked_outDxAx {s : State} (h : s.portsAnswer .outDxAx = false) : Blocked .outDxAx s (.stuck s) := by
  have hports : (portsFrom (s.r16 .dx) 2).all s.board.portAccepts = false := by
    rw [portsFrom_two]
    exact (Bool.true_and _).symm.trans h
  exact .of_unit (body := regSource .dx >>= fun port => regSource .ax >>= ioWrite port 2) rfl
    (ioWrite_stuck (s.r16 .ax) hports)

/-- A port access that is not answered (R76); an instruction without ports has none. -/
theorem blocked_port {i : Instr} {s : State} (h : s.portsAnswer i = false) : Blocked i s (.stuck s) := by
  have hports : s.portsRead i ≠ [] ∨ s.portsWritten i ≠ [] := by
    by_contra hc
    obtain ⟨hr, hw⟩ := not_or.1 hc
    simp [State.portsAnswer, not_not.1 hr, not_not.1 hw] at h
  unfold State.portsRead State.portsWritten at hports
  split at hports
  · exact blocked_inByte (body := readPortByte (portOf _)) rfl rfl rfl rfl h
  · exact blocked_inByte (body := regSource .dx >>= readPortByte) (port := s.r16 .dx) rfl rfl rfl rfl h
  · exact blocked_inAxDx h
  · split at hports
    · exact blocked_outByte (body := writePortByte (portOf _)) rfl rfl rfl rfl h
    · exact blocked_outByte (body := regSource .dx >>= writePortByte) (port := s.r16 .dx) rfl rfl rfl rfl h
    · exact blocked_outDxAx h
    · simp at hports

/-! ### A store after its operand was read -/

/-- A slot that nothing takes sticks a push (R264). -/
theorem push16_stuck {s : State} (v : Word) (hl : s.inLimit .ss (s.slotBelow 1) 2 = true)
    (h : (s.accepted (s.linear .ss (s.slotBelow 1)) && s.accepted (s.linear .ss (s.slotBelow 1) + 1)) = false) :
    push16 v s = .error (.stuck s) := by
  rw [push16, run_view_bind, run_bind_ok (checkLimit_ok hl), run_view_bind, run_bind_error (writeWord_stuck v h)]

theorem blocked_twoOperand_store {i : Instr} {o : AluOp} {dst : Rm} {src : Source} {s : State} {sg : Sreg} {off : Word}
    (h : twoOperand i = some (o, dst, src)) (hw : o.writes = true) (hp : s.place dst = .mem sg off)
    (hr : ∀ p ∈ s.readBy i, ∃ v, s.holdsAt p = some v)
    (ha : (s.accepted (s.linear sg off) && s.accepted (s.linear sg off + 1)) = false) :
    Blocked i s (.stuck (s.drew o.free)) := by
  obtain ⟨a, hdst⟩ := hr (s.place dst) (by simp only [State.readBy, h]; cases src <;> simp)
  obtain ⟨b, hsrc⟩ : ∃ b, s.sourceValue src = some b := by
    cases src with
    | rm x => exact hr (s.place x) (by simp [State.readBy, h])
    | imm v => exact ⟨v, rfl⟩
  obtain ⟨x, -, hx⟩ := o.compute_ok a b s
  refine .of_unit (exec_twoOperand h s) ?_
  rw [twoOperandBody, if_pos hw, locate_read hdst, run_bind_ok (Source.read_ok hsrc), run_bind_ok hx,
    run_bind_error (writeLoc_stuck _ _ hp ha)]

theorem blocked_shift_store {i : Instr} {o : ShiftOp} {rm : Rm} {count : State → Byte} {s : State} {sg : Sreg}
    {off a : Word} (h : shiftForm i = some (o, rm, count)) (hp : s.place rm = .mem sg off)
    (hv : s.holdsAt (s.place rm) = some a)
    (ha : (s.accepted (s.linear sg off) && s.accepted (s.linear sg off + 1)) = false) :
    ∃ n, Blocked i s (.stuck (s.drew n)) := by
  by_cases h0 : maskCount (count s) = 0
  · refine ⟨0, .of_unit (exec_shift h s) ?_⟩
    rw [shiftBody, locate_read hv, run_view_bind, if_pos h0]
    exact writeLoc_stuck a 0 hp ha
  · obtain ⟨x, hx⟩ := o.compute_ok a (maskCount (count s)) s
    refine ⟨o.free, .of_unit (exec_shift h s) ?_⟩
    rw [shiftBody, locate_read hv, run_view_bind, if_neg h0, run_bind_ok hx,
      run_bind_error (writeLoc_stuck _ _ hp ha)]

/-- An instruction that reads its operand and then stores to it. -/
theorem blocked_modify {i : Instr} {rm : Rm} {f : Word → Word} {g : Word → M Unit} {s : State} {sg : Sreg}
    {off a : Word}
    (hm : exec i s = straight i (do let l ← locate rm; let v ← readLoc l; writeLoc l (f v); g v) s)
    (hp : s.place rm = .mem sg off) (hv : s.holdsAt (s.place rm) = some a)
    (ha : (s.accepted (s.linear sg off) && s.accepted (s.linear sg off + 1)) = false) : Blocked i s (.stuck s) := by
  refine .of_unit hm ?_
  rw [locate_read hv]
  exact run_bind_error (writeLoc_stuck _ 0 hp ha)

/-- A store that nothing takes, after whatever the instruction has read and drawn (R75). -/
theorem blocked_target {i : Instr} {s : State} {sg : Sreg} {off : Word} (h : s.target i = some (.mem sg off))
    (hl : s.inLimit sg off 2 = true) (hr : ∀ p ∈ s.readBy i, ∃ v, s.holdsAt p = some v) (hd : s.defined i = true)
    (ha : (s.accepted (s.linear sg off) && s.accepted (s.linear sg off + 1)) = false) :
    ∃ n, Blocked i s (.stuck (s.drew n)) := by
  cases h2 : twoOperand i with
  | some p =>
    obtain ⟨o, dst, src⟩ := p
    simp only [State.target, h2] at h
    cases hw : o.writes with
    | false => rw [hw] at h; cases h
    | true =>
      rw [hw] at h
      exact ⟨_, blocked_twoOperand_store h2 hw (Option.some.inj h) hr ha⟩
  | none =>
  cases hs : shiftForm i with
  | some p =>
    obtain ⟨o, rm, count⟩ := p
    simp only [State.target, h2, hs, Option.some.injEq] at h
    obtain ⟨a, hv⟩ := hr (s.place rm) (by simp [State.readBy, h2, hs])
    exact blocked_shift_store hs h hv ha
  | none =>
  refine ⟨0, ?_⟩
  cases i
  case notRm rm =>
    obtain ⟨a, hv⟩ := hr (s.place rm) (List.mem_singleton_self _)
    refine .of_unit (body := do let l ← locate rm; let v ← readLoc l; writeLoc l (v ^^^ 0xFFFF#16)) rfl ?_
    rw [locate_read hv]
    exact writeLoc_stuck _ 0 (Option.some.inj h) ha
  case negRm rm =>
    obtain ⟨a, hv⟩ := hr (s.place rm) (List.mem_singleton_self _)
    exact blocked_modify (f := fun v => (subFlags 0 v false).result)
      (g := fun v => update fun s => s.setArith (subFlags 0 v false)) rfl (Option.some.inj h) hv ha
  case movRmR rm r => exact blocked_store (rm := rm) rfl (Option.some.inj h) hl rfl ha
  case movRmImm16 rm v => exact blocked_store (rm := rm) rfl (Option.some.inj h) hl rfl ha
  case movMoffsAx o => exact blocked_store (rm := .direct o) rfl (Option.some.inj h) hl rfl ha
  case movRmSreg rm f =>
    cases f
    case seg r => exact blocked_store (rm := rm) rfl (Option.some.inj h) hl rfl ha
    case six | seven => cases hd
  case pushR r => cases h; exact blocked_pushR (push16_stuck _ hl ha)
  all_goals first | cases h | (cases h2; done) | cases hs

/-! ### The stack -/

theorem peek16_stuck {s : State} (hl : s.inLimit .ss (s.r16 .sp) 2 = true)
    (h : (s.answered (s.linear .ss (s.r16 .sp)) && s.answered (s.linear .ss (s.r16 .sp) + 1)) = false) :
    peek16 s = .error (.stuck s) := by
  rw [peek16, run_view_bind, State.slotAbove_zero, run_bind_ok (checkLimit_ok hl), run_view_bind, readWord_stuck h]

theorem State.peekWord_of_holdsAt {s : State} {sg : Sreg} {off v : Word} (h : s.holdsAt (.mem sg off) = some v) :
    s.peekWord (s.linear sg off) = some v := by
  simp only [State.holdsAt] at h
  split at h
  · exact h
  · cases h

/-- IRET sticks at the first of its slots that is not answered (R315). -/
theorem trapReturn_stuck {s : State} {k : Nat} (hk : k < 3) (h0 : s.inLimit .ss (s.slotAbove 0) 2 = true)
    (h1 : s.inLimit .ss (s.slotAbove 1) 2 = true) (h2 : s.inLimit .ss (s.slotAbove 2) 2 = true)
    (hr : ∀ j, j < k → ∃ v, s.holdsAt (.mem .ss (s.slotAbove j)) = some v)
    (h : (s.answered (s.linear .ss (s.slotAbove k)) && s.answered (s.linear .ss (s.slotAbove k) + 1)) = false) :
    trapReturn s = .error (.stuck s) := by
  rw [trapReturn]
  simp only [run_view_bind]
  rw [run_bind_ok (checkLimit_ok h0), run_bind_ok (checkLimit_ok h1), run_bind_ok (checkLimit_ok h2), run_view_bind]
  match k with
  | 0 => rw [run_bind_error (readWord_stuck h)]
  | 1 =>
    obtain ⟨_, v0⟩ := hr 0 (by decide)
    rw [run_bind_ok (readWord_peek (State.peekWord_of_holdsAt v0)), run_bind_error (readWord_stuck h)]
  | 2 =>
    obtain ⟨_, v0⟩ := hr 0 (by decide)
    obtain ⟨_, v1⟩ := hr 1 (by decide)
    rw [run_bind_ok (readWord_peek (State.peekWord_of_holdsAt v0)),
      run_bind_ok (readWord_peek (State.peekWord_of_holdsAt v1)), run_bind_error (readWord_stuck h)]
  | k + 3 => omega

/-! ### Trap entry (R366) -/

/-- The three stores of a trap entry to the slots `t0`, `t1` and `t2`, and its end. -/
def storeFrame (rip t0 t1 t2 off seg : Word) : M Unit := do
  let fl ← view State.flags16
  let cs ← view fun s => (s.seg .cs).sel
  let stack ← view fun s => s.linear .ss
  writeWord (stack t0) fl
  writeWord (stack t1) cs
  writeWord (stack t2) rip
  update fun s => s.enterHandler t2 seg off

/-- The state in which a trap entry for vector `n` passes its checks: the table entry lies within IDTR's limit and
the three slots within that of SS. -/
structure State.Checked (s : State) (n : Byte) : Prop where
  table : 4 * n.toNat + 3 ≤ s.sys.idtr.limit.toNat
  slot1 : s.inLimit .ss (s.slotBelow 1) 2 = true
  slot2 : s.inLimit .ss (s.slotBelow 2) 2 = true
  slot3 : s.inLimit .ss (s.slotBelow 3) 2 = true

/-- A trap entry that passes its checks reads the table entry and stores the frame. -/
theorem trapEntry_checked {s : State} {n : Byte} (rip : Word) (h : s.Checked n) : trapEntry n rip s =
    (do
      let off ← readWord (s.vectorAt n)
      let seg ← readWord (s.vectorAt n + 2)
      storeFrame rip (s.slotBelow 1) (s.slotBelow 2) (s.slotBelow 3) off seg : M Unit) s := by
  have htable := h.table
  rw [trapEntry, run_view_bind, if_neg (by omega)]
  simp only [run_view_bind]
  rw [run_bind_ok (checkLimit_ok h.slot1), run_bind_ok (checkLimit_ok h.slot2), run_bind_ok (checkLimit_ok h.slot3)]
  rfl

/-- The same where the table entry is held by RAM or ROM: only the stores can still stop it. -/
theorem trapEntry_vector {s : State} {n : Byte} {off seg : Word} (rip : Word) (h : s.Checked n)
    (hv : s.vector n = some (off, seg)) :
    trapEntry n rip s = storeFrame rip (s.slotBelow 1) (s.slotBelow 2) (s.slotBelow 3) off seg s := by
  simp only [State.vector] at hv
  split at hv
  · next off' seg' ho hs =>
    cases hv
    change s.peekWord (s.vectorAt n) = _ at ho
    change s.peekWord (s.vectorAt n + 2) = _ at hs
    rw [trapEntry_checked rip h, run_bind_ok (readWord_peek ho), run_bind_ok (readWord_peek hs)]
  · cases hv

theorem deliver_stuck {s t : State} {n : Byte} {rip : Word} (c : Bool) (h : trapEntry n rip s = .error (.stuck t)) :
    deliver n c rip s = .next t.stick := by rw [deliver, h, conclude_stuck]

theorem State.slotFree_storable {s : State} {k : Nat} (h : s.slotFree k = true) :
    s.storable (s.linear .ss (s.slotBelow k)) = true := (Bool.and_eq_true_iff.1 h).2

section
variable {s : State} {n : Byte} (c : Bool) (rip : Word) (h : s.Checked n)
include h

theorem deliver_offset_stuck (ha : (s.answered (s.vectorAt n) && s.answered (s.vectorAt n + 1)) = false) :
    deliver n c rip s = .next s.stick :=
  deliver_stuck c (by rw [trapEntry_checked rip h, run_bind_error (readWord_stuck ha)])

theorem deliver_segment_stuck (ho : (s.peekWord (s.vectorAt n)).isSome = true)
    (ha : (s.answered (s.vectorAt n + 2) && s.answered (s.vectorAt n + 2 + 1)) = false) :
    deliver n c rip s = .next s.stick := by
  obtain ⟨off, ho⟩ := Option.isSome_iff_exists.1 ho
  refine deliver_stuck c ?_
  rw [trapEntry_checked rip h, run_bind_ok (readWord_peek ho), run_bind_error (readWord_stuck ha)]

variable (hv : (s.vector n).isSome = true)
include hv

theorem deliver_slot1_stuck (ha : s.takesSlot 1 = false) : deliver n c rip s = .next s.stick := by
  obtain ⟨⟨off, seg⟩, hv⟩ := Option.isSome_iff_exists.1 hv
  refine deliver_stuck c ?_
  rw [trapEntry_vector rip h hv, storeFrame]
  simp only [run_view_bind]
  rw [run_bind_error (writeWord_stuck _ ha)]

theorem deliver_slot2_stuck (h1 : s.slotFree 1 = true) (ha : s.takesSlot 2 = false) :
    deliver n c rip s = .next (s.pokeWord (s.linear .ss (s.slotBelow 1)) s.flags16).stick := by
  obtain ⟨⟨off, seg⟩, hv⟩ := Option.isSome_iff_exists.1 hv
  refine deliver_stuck c ?_
  rw [trapEntry_vector rip h hv, storeFrame]
  simp only [run_view_bind]
  rw [run_bind_ok (writeWord_ram _ (State.slotFree_storable h1)), run_bind_error (writeWord_stuck _ (by exact ha))]

theorem deliver_slot3_stuck (h1 : s.slotFree 1 = true) (h2 : s.slotFree 2 = true) (ha : s.takesSlot 3 = false) :
    deliver n c rip s = .next ((s.pokeWord (s.linear .ss (s.slotBelow 1)) s.flags16).pokeWord
      (s.linear .ss (s.slotBelow 2)) (s.seg .cs).sel).stick := by
  obtain ⟨⟨off, seg⟩, hv⟩ := Option.isSome_iff_exists.1 hv
  refine deliver_stuck c ?_
  rw [trapEntry_vector rip h hv, storeFrame]
  simp only [run_view_bind]
  rw [run_bind_ok (writeWord_ram _ (State.slotFree_storable h1)),
    run_bind_ok (writeWord_ram _ (by exact State.slotFree_storable h2)),
    run_bind_error (writeWord_stuck _ (by exact ha))]

end

/-! ### A stuck core -/

/-- A stuck core makes empty steps, whatever is pending (R74, R385). -/
theorem coreStep_stuck {s : State} (hrun : s.run = .stuck) (ht : s.pinsTaken = false)
    (hn : s.tap.coreNeedsReset = false) (hm : s.realMode = true) (hb : s.breakpointArmed = false) :
    coreStep s = .next s := by
  simp [coreStep, State.events, hrun, ht, hn, hm, hb]

/-- The rising edge of RESET resets the core (R385). -/
theorem perform_reset {s : State} (h : s.pins.inp.reset = false) : perform (.drive .reset true) s =
    .next (State.applyReset { s with pins := { s.pins with inp := s.pins.inp.set .reset true } }) :=
  if_pos (by rw [show s.pins.inp.get HostPin.reset.pin = false from h]; rfl)

/-- Settles O35: each access stops where it is, and a stuck core waits for RESET. -/
theorem unansweredAccessSticksCore : Obligations.UnansweredAccessSticksCore := by
  refine ⟨fun i rm s sg off h hp hl hpast => ⟨fun hr ha => ?_, fun hr ha => ?_⟩, fun i s hpast h => ?_,
    fun i s sg off h hl hr hd hpast ha => ?_, fun s r hl ha => ⟨fun hpast => ?_, ?_⟩,
    fun s k hk h0 h1 h2 hr ha => ?_, fun s rel hpast ht hl ha => ?_,
    fun n c rip s htab h1 h2 h3 => ?_, fun s got hready hd hf hl hc ha => ?_,
    fun s hrun => ⟨coreStep_stuck hrun, fun h => ⟨_, perform_reset h, rfl⟩⟩⟩
  · exact (blocked_read h hp hl hr ha).stuck hpast
  · exact (blocked_store h hp hl hr ha).stuck hpast
  · exact (blocked_port h).stuck hpast
  · have hread : ∀ p ∈ s.readBy i, ∃ v, s.holdsAt p = some v := by
      simpa only [List.all_eq_true, Option.isSome_iff_exists] using hr
    obtain ⟨m, hm⟩ := blocked_target h hl hread hd ha
    exact ⟨m, hm.stuck hpast⟩
  · exact (blocked_popR (peek16_stuck hl ha)).stuck hpast
  · exact exec_ret_error (peek16_stuck hl ha)
  · refine exec_iret_error (trapReturn_stuck hk h0 h1 h2 (fun j hj => ?_) ha)
    exact Option.isSome_iff_exists.1 (hr j hj)
  · exact exec_callRel16_error hpast ht (push16_stuck _ hl ha)
  · have hc : s.Checked n := ⟨htab, h1, h2, h3⟩
    exact ⟨deliver_offset_stuck c rip hc, deliver_segment_stuck c rip hc, fun hv => ⟨deliver_slot1_stuck c rip hc hv,
      deliver_slot2_stuck c rip hc hv, deliver_slot3_stuck c rip hc hv⟩⟩
  · rw [State.ready_step hready, executeNext, fetch_error hd hf (fetchByte_stuck hl hc ha)]
    rfl

end Sys2Proof.Machine
end

section
/-! PROOFS. What an instruction that does not transfer control may change: O8, and what it adds to `dirty_code`. -/

namespace Sys2Proof.Machine

/-! ### The frame of an instruction -/

/-- The fields of EFLAGS that no instruction but IRET writes (R340). -/
def Eflags.system (e : Eflags) : BitVec 2 × Bool × Bool × Bool × Bool × Bool × Bool :=
  (e.iopl, e.nt, e.rf, e.vm, e.vif, e.vip, e.idf)

/-- `t` differs from `s` at most in what `i` may write before it ends, the bytes stored to being those of `l`. -/
structure Frame (i : Instr) (s : State) (l : List Nat) (t : State) : Prop where
  carries : Carries s t
  eip : t.eip = s.eip
  regs : ∀ r, r ∉ writtenRegs i → t.r32 r = s.r32 r
  upper : i ≠ .rdtsc → ∀ r, (t.r32 r).extractLsb' 16 16 = (s.r32 r).extractLsb' 16 16
  flags : ∀ f, f ∉ writtenFlags i → t.flag f = s.flag f
  system : t.eflags.system = s.eflags.system
  segs : ∀ r, loadedSeg i ≠ some r → t.seg r = s.seg r
  attrs : ∀ r, (t.seg r).attrs = (s.seg r).attrs
  mem : ∀ a, a ∉ l → Memory.get t.mem a = Memory.get s.mem a
  dirty : ∀ a, a ∈ t.dirty ↔ a ∈ s.dirty ∨ a ∈ l
  clean : l = [] → t.dirty = s.dirty
  answers : s.portsRead i = [] → t.answers = s.answers
  trace : s.portsRead i = [] → s.portsWritten i = [] → t.trace = s.trace
  run : i ≠ .hlt → t.run = s.run
  tsc : i ≠ .rdtsc → t.tsc = s.tsc
  latch : t.latch = s.latch

theorem Frame.start (i : Instr) (s : State) : Frame i s [] s where
  carries := .rfl' s
  eip := rfl
  regs _ _ := rfl
  upper _ _ := rfl
  flags _ _ := rfl
  system := rfl
  segs _ _ := rfl
  attrs _ := rfl
  mem _ _ := rfl
  dirty a := by simp
  clean _ := rfl
  answers _ := rfl
  trace _ _ := rfl
  run _ := rfl
  tsc _ := rfl
  latch := rfl

section
variable {i : Instr} {s t : State} {l : List Nat}

/-- An update of the general registers alone. -/
theorem Frame.setGpr (h : Frame i s l t) {g : Gpr} (hc : Carries t { t with gpr := g })
    (hr : ∀ r, r ∉ writtenRegs i → ({ t with gpr := g } : State).r32 r = t.r32 r)
    (hu : i ≠ .rdtsc → ∀ r,
      (({ t with gpr := g } : State).r32 r).extractLsb' 16 16 = (t.r32 r).extractLsb' 16 16) :
    Frame i s l { t with gpr := g } :=
  { h with
    carries := h.carries.trans hc
    regs := fun r hw => (hr r hw).trans (h.regs r hw)
    upper := fun hi r => (hu hi r).trans (h.upper hi r) }

theorem State.setR32_eq (s : State) (r : Reg) (v : Dword) : s.setR32 r v = { s with gpr := (s.setR32 r v).gpr } := by
  cases r <;> rfl

theorem State.setR8_eq (s : State) (r : Reg8) (v : Byte) : s.setR8 r v = { s with gpr := (s.setR8 r v).gpr } := by
  cases r <;> rfl

theorem Frame.setR16 (h : Frame i s l t) {r : Reg} (v : Word) (hr : r ∈ writtenRegs i) :
    Frame i s l (t.setR16 r v) := by
  have e : t.setR16 r v = { t with gpr := (t.setR16 r v).gpr } := State.setR32_eq _ _ _
  rw [e]
  refine h.setGpr (by rw [← e]; exact carries_setR16 t r v) (fun q hq => ?_) fun _ q => ?_
  · have hne : q ≠ r := fun hqr => hq (hqr ▸ hr)
    rw [← e, State.setR16, State.r32_setR32, if_neg hne]
  · rw [← e, State.setR16_upper]

theorem Frame.setR8 (h : Frame i s l t) {r : Reg8} (v : Byte) (hr : (homeOf r).1 ∈ writtenRegs i) :
    Frame i s l (t.setR8 r v) := by
  have e := t.setR8_eq r v
  rw [e]
  refine h.setGpr (by rw [← e]; exact carries_setR8 t r v) (fun q hq => ?_) fun _ q => ?_
  · have hne : q ≠ (homeOf r).1 := fun hqr => hq (hqr ▸ hr)
    rw [← e, State.setR8_r32_other t v hne]
  · rw [← e, State.setR8_upper]

/-- An update of EFLAGS alone. -/
theorem Frame.setEflags (h : Frame i s l t) {e : Eflags} (hc : Carries t { t with eflags := e })
    (hf : ∀ f, f ∉ writtenFlags i → ({ t with eflags := e } : State).flag f = t.flag f)
    (hs : e.system = t.eflags.system) : Frame i s l { t with eflags := e } :=
  { h with
    carries := h.carries.trans hc
    flags := fun f hw => (hf f hw).trans (h.flags f hw)
    system := hs.trans h.system }

theorem Frame.setArith (h : Frame i s l t) (x : Arith)
    (hf : ∀ f, f ∉ writtenFlags i → (t.setArith x).flag f = t.flag f) : Frame i s l (t.setArith x) :=
  h.setEflags (carries_setArith t x) hf rfl

theorem Frame.setFlag (h : Frame i s l t) {f : Flag} (b : Bool) (hf : f ∈ writtenFlags i) :
    Frame i s l (t.setFlag f b) := by
  have e : t.setFlag f b = { t with eflags := (t.setFlag f b).eflags } := by cases f <;> rfl
  rw [e]
  refine h.setEflags (by rw [← e]; exact carries_setFlag t f b) (fun g hg => ?_) (by cases f <;> rfl)
  have hne : g ≠ f := fun hgf => hg (hgf ▸ hf)
  rw [← e, State.flag_setFlag, if_neg hne]

theorem Frame.drew (h : Frame i s l t) (n : Nat) : Frame i s l (t.drew n) :=
  { h with carries := h.carries.trans (carries_drew t n) }

theorem Frame.loadSeg (h : Frame i s l t) {r : Sreg} (v : Word) (hr : loadedSeg i = some r) :
    Frame i s l (t.loadSeg r v) := by
  have e : t.loadSeg r v = { t with sreg := (t.loadSeg r v).sreg } := by cases r <;> rfl
  have hseg : ∀ q, (t.loadSeg r v).seg q = if q = r then (t.seg q).load v else t.seg q := fun q => t.seg_loadSeg r q v
  have hc := carries_loadSeg t r v
  rw [e] at hseg hc ⊢
  refine { h with carries := h.carries.trans hc, segs := fun q hq => ?_, attrs := fun q => ?_ }
  · have hne : q ≠ r := fun hqr => hq (hqr ▸ hr)
    rw [hseg, if_neg hne, h.segs q hq]
  · rw [hseg, ← h.attrs q]
    split <;> rfl

/-- A port read takes an answer of the platform. -/
theorem Frame.answer (h : Frame i s l s) (hr : s.portsRead i ≠ []) : Frame i s l s.answer.2 := by
  have hc : Carries s s.answer.2 := by
    have := carrying_takeAnswer s
    rwa [takeAnswer_eq] at this
  obtain ⟨answers, draws, trace, e⟩ := s.asked_answer
  rw [e] at hc ⊢
  exact { h with carries := hc, answers := fun hn => absurd hn hr, trace := fun hn => absurd hn hr }

theorem Frame.see (h : Frame i s l t) (e : Seen) (hp : s.portsRead i ≠ [] ∨ s.portsWritten i ≠ []) :
    Frame i s l (t.see e) :=
  { h with
    carries := h.carries.trans (carries_see t e)
    trace := fun hr hw => absurd hp (not_or.2 ⟨not_not.2 hr, not_not.2 hw⟩) }

end

/-- A write of the operand stores to its bytes, or to a register the instruction writes. -/
theorem Frame.put {i : Instr} (s : State) {p : Place} (v : Word) (hr : ∀ r, p = .reg r → r ∈ writtenRegs i) :
    Frame i s (s.stores p) (s.put p v) := by
  cases p with
  | reg r => exact (Frame.start i s).setR16 v (hr r rfl)
  | mem sg off =>
    have hstores : s.stores (.mem sg off) = s.wordAt (s.linear sg off) := rfl
    have hdirty : (s.pokeWord (s.linear sg off) v).dirty =
        setInsert (setInsert s.dirty (s.phys (s.linear sg off))) (s.phys (s.linear sg off + 1)) := rfl
    exact { Frame.start i s with
      carries := (carries_poke s _ _).trans (carries_poke _ _ _)
      mem := fun a => State.pokeWord_get
      dirty := fun a => by
        change a ∈ (s.pokeWord (s.linear sg off) v).dirty ↔ _
        rw [hdirty, setInsert_mem, setInsert_mem, hstores, State.mem_wordAt]
        tauto
      clean := fun hl => absurd hl (List.cons_ne_nil _ _) }

/-! ### Instructions that reach their end -/

/-- The instruction runs to `next_ip` and changes nothing its frame leaves out; the shadow `h` it sets is none but for
STI and the loads of SS (R265). -/
def Finishes (i : Instr) (s : State) : Prop :=
  ∃ t h, exec i s = .next ((t.atEnd i).setShadow h) ∧ Frame i s (s.storedBy i) t ∧
    (i ≠ .sti → (∀ rm, i ≠ .movSregRm (.seg .ss) rm) → h = .none)

theorem Finishes.of_atEnd {i : Instr} {s t : State} (he : exec i s = .next (t.atEnd i))
    (hf : Frame i s (s.storedBy i) t) : Finishes i s := ⟨t, .none, he, hf, fun _ _ => rfl⟩

/-- No instruction that does not transfer control writes TF (R340). -/
theorem tf_notMem_writtenFlags (i : Instr) : Flag.tf ∉ writtenFlags i := by
  unfold writtenFlags
  split
  · decide
  · split
    · decide
    · split <;> decide

/-- A body that ends in a state its frame allows. -/
theorem Finishes.of_straight {i : Instr} {body : M Unit} {s t : State} (hm : exec i s = straight i body s)
    (hf : s.mayFinish i = true) (hb : body s = .ok ((), t)) (h : Frame i s (s.storedBy i) t) : Finishes i s :=
  .of_atEnd (by rw [hm, straight_ok hf hb (h.flags .tf (tf_notMem_writtenFlags i)) h.eip]) h

/-! ### The instructions, kind by kind -/

theorem State.place_reg {s : State} {rm : Rm} {r : Reg} (h : s.place rm = .reg r) : rm = .reg r := by
  cases rm <;> cases h
  rfl

/-- The six arithmetic flags and no other are written. -/
theorem setArith_flag_other {t : State} (x : Arith) {f : Flag} (hf : f ∉ [Flag.cf, .pf, .af, .zf, .sf, .ovf]) :
    (t.setArith x).flag f = t.flag f := by
  cases f <;> first | rfl | exact absurd (by decide) hf

theorem Frame.setSix {i : Instr} {s t : State} {l : List Nat} (h : Frame i s l t) (x : Arith)
    (hw : writtenFlags i = [.cf, .pf, .af, .zf, .sf, .ovf]) : Frame i s l (t.setArith x) :=
  h.setArith x fun _ hn => setArith_flag_other x (by rwa [hw] at hn)

section
variable {i : Instr} {o : AluOp} {dst rm : Rm} {src : Source} {sh : ShiftOp} {count : State → Byte}

theorem writtenRegs_twoOperand {r : Reg} (h : twoOperand i = some (o, .reg r, src)) (hw : o.writes = true) :
    writtenRegs i = [r] := by
  unfold writtenRegs
  rw [h]
  exact if_pos hw

theorem writtenFlags_twoOperand (h : twoOperand i = some (o, dst, src)) :
    writtenFlags i = [.cf, .pf, .af, .zf, .sf, .ovf] := by
  unfold writtenFlags
  rw [h]

theorem target_twoOperand (s : State) (h : twoOperand i = some (o, dst, src)) :
    s.target i = if o.writes then some (s.place dst) else none := by
  unfold State.target
  rw [h]

theorem place_mem_readBy_twoOperand (s : State) (h : twoOperand i = some (o, dst, src)) : s.place dst ∈ s.readBy i := by
  unfold State.readBy
  rw [h]
  cases src <;> exact List.mem_cons_self

theorem source_mem_readBy_twoOperand (s : State) (h : twoOperand i = some (o, dst, .rm rm)) :
    s.place rm ∈ s.readBy i := by
  unfold State.readBy
  rw [h]
  exact List.mem_cons_of_mem _ List.mem_cons_self

theorem writtenRegs_shift {r : Reg} (h2 : twoOperand i = none) (h : shiftForm i = some (sh, .reg r, count)) :
    writtenRegs i = [r] := by
  unfold writtenRegs
  rw [h2, h]

theorem writtenFlags_shift (h2 : twoOperand i = none) (h : shiftForm i = some (sh, rm, count)) :
    writtenFlags i = [.cf, .pf, .af, .zf, .sf, .ovf] := by
  unfold writtenFlags
  rw [h2, h]

theorem target_shift (s : State) (h2 : twoOperand i = none) (h : shiftForm i = some (sh, rm, count)) :
    s.target i = some (s.place rm) := by
  unfold State.target
  rw [h2, h]

theorem readBy_shift (s : State) (h2 : twoOperand i = none) (h : shiftForm i = some (sh, rm, count)) :
    s.readBy i = [s.place rm] := by
  unfold State.readBy
  rw [h2, h]

end

theorem storedBy_of_target {i : Instr} {s : State} {p : Place} (h : s.target i = some p) :
    s.storedBy i = s.stores p := by
  rw [State.storedBy, h]

/-- The first write of an instruction that puts a result to its target. -/
theorem Frame.put_target {i : Instr} {s : State} {rm : Rm} (v : Word) (ht : s.target i = some (s.place rm))
    (hr : ∀ r, rm = .reg r → r ∈ writtenRegs i) : Frame i s (s.storedBy i) (s.put (s.place rm) v) := by
  rw [storedBy_of_target ht]
  exact .put s v fun r hp => hr r (State.place_reg hp)

theorem finishes_twoOperand {i : Instr} {o : AluOp} {dst : Rm} {src : Source} {s : State}
    (h : twoOperand i = some (o, dst, src)) (hf : s.mayFinish i = true) (hu : s.unhindered i = true) :
    Finishes i s := by
  obtain ⟨-, -, hread, htake⟩ := (s.unhindered_iff i).1 hu
  have htarget := target_twoOperand s h
  obtain ⟨a, ha⟩ := hread _ (place_mem_readBy_twoOperand s h)
  obtain ⟨b, hb⟩ : ∃ b, s.sourceValue src = some b := by
    cases src with
    | rm x => exact hread _ (source_mem_readBy_twoOperand s h)
    | imm v => exact ⟨v, rfl⟩
  obtain ⟨x, -, hx⟩ := twoOperandBody_ok (o := o) ha hb fun hw => htake _ (htarget.trans (if_pos hw))
  have hput : Frame i s (s.storedBy i) (if o.writes then s.put (s.place dst) x.result else s) := by
    by_cases hw : o.writes = true
    · rw [if_pos hw] at htarget ⊢
      exact .put_target _ htarget fun r hr => by
        rw [hr] at h
        rw [writtenRegs_twoOperand h hw]
        exact List.mem_singleton_self r
    · rw [if_neg hw] at htarget ⊢
      rw [State.storedBy, htarget]
      exact .start i s
  exact .of_straight (exec_twoOperand h s) hf hx ((hput.setSix x (writtenFlags_twoOperand h)).drew o.free)

theorem finishes_shift {i : Instr} {o : ShiftOp} {rm : Rm} {count : State → Byte} {s : State}
    (h2 : twoOperand i = none) (h : shiftForm i = some (o, rm, count)) (hf : s.mayFinish i = true)
    (hu : s.unhindered i = true) : Finishes i s := by
  have htarget := target_shift s h2 h
  obtain ⟨a, ha⟩ := State.unhindered_read hu (readBy_shift s h2 h)
  have hput : ∀ v, Frame i s (s.storedBy i) (s.put (s.place rm) v) := fun v =>
    .put_target v htarget fun r hr => by
      rw [hr] at h
      rw [writtenRegs_shift h2 h]
      exact List.mem_singleton_self r
  obtain ⟨hzero, hsome⟩ := shiftBody_ok (o := o) (count := count) ha (State.unhindered_write hu htarget)
  by_cases h0 : maskCount (count s) = 0
  · exact .of_straight (exec_shift h s) hf (hzero h0) (hput a)
  · obtain ⟨x, -, hx⟩ := hsome h0
    exact .of_straight (exec_shift h s) hf hx (((hput x.result).setSix x (writtenFlags_shift h2 h)).drew o.free)

/-- An instruction that reads an operand and stores nothing. -/
theorem finishes_load {i : Instr} {rm : Rm} {f : Word → M Unit} {s : State} (hf : s.mayFinish i = true)
    (hu : s.unhindered i = true) (hm : exec i s = straight i (readRm rm >>= f) s) (hr : s.readBy i = [s.place rm])
    (hb : ∀ v, s.holdsAt (s.place rm) = some v → ∃ t, f v s = .ok ((), t) ∧ Frame i s (s.storedBy i) t) :
    Finishes i s := by
  obtain ⟨v, hv⟩ := State.unhindered_read hu hr
  obtain ⟨t, ht, hframe⟩ := hb v hv
  exact .of_straight hm hf (by rw [run_bind_ok (readRm_ok hv), ht]) hframe

/-- An instruction that only stores. -/
theorem finishes_store {i : Instr} {rm : Rm} {s : State} (h : StoresOnly i rm) (hf : s.mayFinish i = true)
    (hu : s.unhindered i = true) (hr : ∀ r, s.place rm = .reg r → r ∈ writtenRegs i) : Finishes i s := by
  obtain ⟨g, h⟩ := h
  obtain ⟨-, ht, hm⟩ := h s
  have htake := State.unhindered_write hu ht
  have hst : s.storedBy i = s.stores (s.place rm) := by rw [State.storedBy, ht]
  refine .of_straight hm hf (t := s.put (s.place rm) (g s)) ?_ (hst ▸ Frame.put s _ hr)
  rw [run_bind_ok (by rw [locate_eq, locatePlace_ok (State.inBounds_of_takes htake)]), run_view_bind,
    writeLoc_ok _ htake]

/-- An instruction that nothing but its end can stop. -/
theorem finishes_update {i : Instr} {f : State → State} {s : State} (hf : s.mayFinish i = true)
    (hm : exec i s = straight i (update f) s) (h : Frame i s (s.storedBy i) (f s)) : Finishes i s :=
  .of_straight hm hf rfl h

theorem finishes_setFlag {i : Instr} {f : Flag} {b : State → Bool} {s : State} (hf : s.mayFinish i = true)
    (hm : exec i s = straight i (update fun s => s.setFlag f (b s)) s) (hw : f ∈ writtenFlags i)
    (hs : s.storedBy i = []) : Finishes i s :=
  finishes_update hf hm (hs ▸ (Frame.start i s).setFlag (b s) hw)

/-- INC and DEC: the flags but CF (R290, R291). -/
theorem finishes_count {i : Instr} {r : Reg} {x : Word → Arith} {s : State} (hf : s.mayFinish i = true)
    (hm : exec i s = straight i (update fun s =>
      (s.setR16 r (x (s.r16 r)).result).setArith { x (s.r16 r) with cf := s.flag .cf }) s)
    (hr : writtenRegs i = [r]) (hw : writtenFlags i = [.pf, .af, .zf, .sf, .ovf]) (hs : s.storedBy i = []) :
    Finishes i s := by
  refine finishes_update hf hm (hs ▸ ((Frame.start i s).setR16 _ (by simp [hr])).setArith _ fun f hn => ?_)
  by_cases hcf : f = .cf
  · subst hcf
    exact (State.flag_setR16 s r _ .cf).symm
  · refine setArith_flag_other _ fun hmem => hn ?_
    rw [hw]
    exact (List.mem_cons.1 hmem).resolve_left hcf

theorem finishes_notRm {rm : Rm} {s : State} (hf : s.mayFinish (.notRm rm) = true)
    (hu : s.unhindered (.notRm rm) = true) : Finishes (.notRm rm) s := by
  obtain ⟨a, ha⟩ := State.unhindered_read hu rfl
  refine .of_straight (body := do let l ← locate rm; let a ← readLoc l; writeLoc l (a ^^^ 0xFFFF#16)) rfl hf
    (by rw [locate_read ha, writeLoc_ok _ (State.unhindered_write hu rfl)]) (Frame.put s _ fun r hr => ?_)
  rw [State.place_reg hr]
  exact List.mem_singleton_self r

theorem finishes_negRm {rm : Rm} {s : State} (hf : s.mayFinish (.negRm rm) = true)
    (hu : s.unhindered (.negRm rm) = true) : Finishes (.negRm rm) s := by
  obtain ⟨a, ha⟩ := State.unhindered_read hu rfl
  have hbody : (do
      let l ← locate rm
      let a ← readLoc l
      writeLoc l (subFlags 0 a false).result
      update fun s => s.setArith (subFlags 0 a false) : M Unit) s =
      .ok ((), (s.put (s.place rm) (subFlags 0 a false).result).setArith (subFlags 0 a false)) := by
    rw [locate_read ha, run_bind_ok (writeLoc_ok _ (State.unhindered_write hu rfl)), run_update]
  refine .of_straight rfl hf hbody (.setSix (Frame.put s _ fun r hr => ?_) _ rfl)
  rw [State.place_reg hr]
  exact List.mem_singleton_self r

/-- A write of DX:AX and of the arithmetic flags, after `n` free values. -/
theorem frame_wide {i : Instr} (s : State) (v w : Word) (x : Arith) (n : Nat) (hr : writtenRegs i = [.ax, .dx])
    (hw : writtenFlags i = [.cf, .pf, .af, .zf, .sf, .ovf]) :
    Frame i s [] ((((s.setR16 .ax v).setR16 .dx w).setArith x).drew n) := by
  refine .drew (.setSix (.setR16 (.setR16 (.start i s) v ?_) w ?_) x hw) n
  · simp [hr]
  · simp [hr]

theorem finishes_mulRm {rm : Rm} {s : State} (hf : s.mayFinish (.mulRm rm) = true)
    (hu : s.unhindered (.mulRm rm) = true) : Finishes (.mulRm rm) s :=
  finishes_load hf hu rfl rfl fun b _ => by
    obtain ⟨x, -, -, hx⟩ := setMulFlags_ok
      (decide ((zext32 (s.r16 .ax) * zext32 b).extractLsb' 16 16 ≠ 0#16)) (s.setProduct (zext32 (s.r16 .ax) * zext32 b))
    exact ⟨_, hx, frame_wide s _ _ x 4 rfl rfl⟩

theorem finishes_imulRm {rm : Rm} {s : State} (hf : s.mayFinish (.imulRm rm) = true)
    (hu : s.unhindered (.imulRm rm) = true) : Finishes (.imulRm rm) s :=
  finishes_load hf hu rfl rfl fun b _ => by
    let p := (s.r16 .ax).signExtend 32 * b.signExtend 32
    obtain ⟨x, -, -, hx⟩ := setMulFlags_ok (decide (p ≠ (low16 p).signExtend 32)) (s.setProduct p)
    exact ⟨_, hx, frame_wide s _ _ x 4 rfl rfl⟩

/-- DIV and IDIV, `quotient` being what the dividend and the divisor give. -/
theorem finishes_divide {i : Instr} {rm : Rm} {quotient : Dword → Word → Option (Word × Word)} {s : State}
    (hf : s.mayFinish i = true) (hu : s.unhindered i = true)
    (hm : exec i s = straight i (do
      let v ← readRm rm
      putQuotient (quotient (← view fun s => s.dividend) v)) s)
    (hr : s.readBy i = [s.place rm])
    (hd : ∀ d, s.holdsAt (s.place rm) = some d → s.defined i = true → (quotient s.dividend d).isSome = true)
    (hregs : writtenRegs i = [.ax, .dx]) (hflags : writtenFlags i = [.cf, .pf, .af, .zf, .sf, .ovf])
    (hs : s.storedBy i = []) : Finishes i s :=
  finishes_load hf hu hm hr fun d h => by
    obtain ⟨⟨q, r⟩, hq⟩ := Option.isSome_iff_exists.1 (hd d h (State.unhindered_defined hu))
    obtain ⟨x, hx⟩ := setDivFlags_ok ((s.setR16 .ax q).setR16 .dx r)
    exact ⟨_, by rw [run_view_bind, hq]; exact hx, hs ▸ frame_wide s q r x 6 hregs hflags⟩

theorem finishes_pushR {r : Reg} {s : State} (hf : s.mayFinish (.pushR r) = true)
    (hu : s.unhindered (.pushR r) = true) : Finishes (.pushR r) s :=
  .of_straight (body := regSource r >>= push16) rfl hf (push16_ok (s.r16 r) (State.unhindered_write hu rfl))
    (.setR16 (Frame.put s (p := .mem .ss (s.slotBelow 1)) _ nofun) _ (List.mem_singleton_self _))

theorem finishes_popR {r : Reg} {s : State} (hf : s.mayFinish (.popR r) = true)
    (hu : s.unhindered (.popR r) = true) : Finishes (.popR r) s := by
  obtain ⟨v, hv⟩ := State.unhindered_read hu rfl
  refine .of_straight (body := pop16 >>= fun v => update fun s => s.setR16 r v) rfl hf
    (by rw [run_bind_ok (pop16_ok hv), run_update]) (.setR16 (.setR16 (.start _ s) _ ?_) v ?_)
  · exact List.mem_cons_self
  · exact List.mem_cons_of_mem _ (List.mem_singleton_self r)

theorem finishes_movAxMoffs {off : Word} {s : State} (hf : s.mayFinish (.movAxMoffs off) = true)
    (hu : s.unhindered (.movAxMoffs off) = true) : Finishes (.movAxMoffs off) s := by
  obtain ⟨v, hv⟩ := State.unhindered_read hu rfl
  have hbody : (do
      let v ← readLoc (← locatePlace (.mem .ds off))
      update fun s => s.setR16 .ax v : M Unit) s = .ok ((), s.setR16 .ax v) := by
    rw [run_bind_ok (locatePlace_ok (State.inBounds_of_holdsAt hv)), run_bind_ok (readLoc_ok hv), run_update]
  exact .of_straight rfl hf hbody (.setR16 (.start _ s) v (List.mem_singleton_self _))

theorem finishes_sti {s : State} (hf : s.mayFinish .sti = true) : Finishes .sti s :=
  ⟨s.setFlag .intf true, shadowOfSti s,
    straightShadow_ok (t := s.setFlag .intf true) (body := do
      let h ← view shadowOfSti
      update fun s => s.setFlag .intf true
      return h) hf rfl rfl, (Frame.start .sti s).setFlag true (List.mem_singleton_self _), fun h => absurd rfl h⟩

theorem finishes_movSregRm {r : Sreg} {rm : Rm} {s : State} (hr : r ≠ .cs)
    (hf : s.mayFinish (.movSregRm (.seg r) rm) = true) (hu : s.unhindered (.movSregRm (.seg r) rm) = true) :
    Finishes (.movSregRm (.seg r) rm) s := by
  obtain ⟨v, hv⟩ := State.unhindered_read hu rfl
  have hframe : Frame (.movSregRm (.seg r) rm) s [] (s.loadSeg r v) := (Frame.start _ s).loadSeg v rfl
  have htf := State.flag_loadSeg s r v .tf
  have heip := State.loadSeg_eip s r v
  obtain ⟨hother, hfirst, hlater⟩ := shadowOfLoad_ok r (s.loadSeg r v)
  by_cases hss : r = .ss
  · have hshadow : ∀ h, (∀ m, Instr.movSregRm (.seg r) rm ≠ .movSregRm (.seg .ss) m) → h = Shadow.none :=
      fun _ hne => absurd (by rw [hss]) (hne rm)
    by_cases h0 : (s.loadSeg r v).latch.shadow = .none
    · exact ⟨_, _, exec_loadSeg hr hv hf (hfirst hss h0) htf heip, hframe, fun _ => hshadow _⟩
    · obtain ⟨h, -, e⟩ := hlater hss h0
      exact ⟨_, h, exec_loadSeg hr hv hf e htf heip, hframe.drew 1, fun _ => hshadow _⟩
  · exact ⟨_, _, exec_loadSeg hr hv hf (hother hss) htf heip, hframe, fun _ _ => rfl⟩

/-- IN: an answer of the platform is taken and the access is seen, then AL or AX is written (R326). -/
theorem frame_in {i : Instr} {s : State} (e : Seen) (hp : s.portsRead i ≠ []) :
    Frame i s [] (s.answer.2.see e) := ((Frame.start i s).answer hp).see e (.inl hp)

theorem frame_out {i : Instr} {s : State} (e : Seen) (hp : s.portsWritten i ≠ []) :
    Frame i s [] (s.see e) := (Frame.start i s).see e (.inr hp)

theorem finishes_port {i : Instr} {s : State} (p : Byte) (hf : s.mayFinish i = true) (hu : s.unhindered i = true)
    (hi : i = .inAlImm8 p ∨ i = .inAlDx ∨ i = .inAxDx ∨ i = .outImm8Al p ∨ i = .outDxAl ∨ i = .outDxAx) :
    Finishes i s := by
  obtain ⟨-, hports, -, -⟩ := (s.unhindered_iff i).1 hu
  obtain ⟨h1, h2, h3, h4, h5, h6⟩ := portResult s i p hf hports
  obtain rfl | rfl | rfl | rfl | rfl | rfl := hi
  · exact .of_atEnd (h1 rfl) ((frame_in _ (by exact List.cons_ne_nil _ _)).setR8 _ (List.mem_singleton_self _))
  · exact .of_atEnd (h2 rfl) ((frame_in _ (by exact List.cons_ne_nil _ _)).setR8 _ (List.mem_singleton_self _))
  · exact .of_atEnd (h3 rfl) ((frame_in _ (by exact List.cons_ne_nil _ _)).setR16 _ (List.mem_singleton_self _))
  · exact .of_atEnd (h4 rfl) (frame_out _ (by exact List.cons_ne_nil _ _))
  · exact .of_atEnd (h5 rfl) (frame_out _ (by exact List.cons_ne_nil _ _))
  · exact .of_atEnd (h6 rfl) (frame_out _ (by exact List.cons_ne_nil _ _))

theorem finishes_hlt {s : State} (hf : s.mayFinish .hlt = true) : Finishes .hlt s :=
  finishes_update hf rfl
    { Frame.start .hlt s with carries := carries_run s .halted, run := fun h => absurd rfl h }

theorem finishes_rdtsc {s : State} (hf : s.mayFinish .rdtsc = true) : Finishes .rdtsc s := by
  refine .of_straight rfl hf (rdtscBody_ok s) ?_
  exact { Frame.start .rdtsc s with
    carries := by have := carrying_rdtscBody s; rwa [rdtscBody_ok] at this
    regs := fun r hr => by
      cases r
      case ax | dx => exact absurd (by decide) hr
      all_goals rfl
    upper := fun h => absurd rfl h
    tsc := fun h => absurd rfl h }

/-- Every instruction that does not transfer control and may run does run to `next_ip` within its frame. -/
theorem finishes_of_runs {i : Instr} {s : State} (h : s.runs i = true) : Finishes i s := by
  obtain ⟨hline, hf, hu⟩ := (s.runs_iff i).1 h
  cases h2 : twoOperand i with
  | some p => exact finishes_twoOperand h2 hf hu
  | none =>
  cases hs : shiftForm i with
  | some p => exact finishes_shift h2 hs hf hu
  | none =>
  cases i
  case incR r => exact finishes_count (x := fun a => addFlags a 1 false) hf rfl rfl rfl rfl
  case decR r => exact finishes_count (x := fun a => subFlags a 1 false) hf rfl rfl rfl rfl
  case pushR r => exact finishes_pushR hf hu
  case popR r => exact finishes_popR hf hu
  case nop => exact finishes_update (f := id) hf rfl (.start _ s)
  case movR8Imm8 r v => exact finishes_update hf rfl ((Frame.start _ s).setR8 v (List.mem_singleton_self _))
  case movRImm16 r v => exact finishes_update hf rfl ((Frame.start _ s).setR16 v (List.mem_singleton_self _))
  case movRRm r rm =>
    exact finishes_load hf hu rfl rfl fun v _ =>
      ⟨_, rfl, (Frame.start _ s).setR16 v (List.mem_singleton_self _)⟩
  case movAxMoffs off => exact finishes_movAxMoffs hf hu
  case notRm rm => exact finishes_notRm hf hu
  case negRm rm => exact finishes_negRm hf hu
  case mulRm rm => exact finishes_mulRm hf hu
  case imulRm rm => exact finishes_imulRm hf hu
  case divRm rm =>
    exact finishes_divide hf hu rfl rfl (fun d h hd => by simpa only [State.defined, h] using hd) rfl rfl rfl
  case idivRm rm =>
    exact finishes_divide hf hu rfl rfl (fun d h hd => by simpa only [State.defined, h] using hd) rfl rfl rfl
  case movMoffsAx off =>
    exact finishes_store (rm := .direct off)
      (storesOnly (fun s => s.r16 .ax) (fun _ => rfl) (fun _ => rfl) fun _ => rfl) hf hu nofun
  case movRmR rm r =>
    exact finishes_store (storesOnly (fun s => s.r16 r) (fun _ => rfl) (fun _ => rfl) fun _ => rfl) hf hu fun q hq => by
      cases State.place_reg hq; exact List.mem_singleton_self q
  case movRmImm16 rm v =>
    exact finishes_store (storesOnly (fun _ => v) (fun _ => rfl) (fun _ => rfl) fun _ => rfl) hf hu fun q hq => by
      cases State.place_reg hq; exact List.mem_singleton_self q
  case movRmSreg rm f =>
    cases f
    case seg r =>
      exact finishes_store (storesOnly (fun s => (s.seg r).sel) (fun _ => rfl) (fun _ => rfl) fun _ => rfl) hf hu
        fun q hq => by cases State.place_reg hq; exact List.mem_singleton_self q
    case six | seven => cases State.unhindered_defined hu
  case movSregRm f rm =>
    have hd := State.unhindered_defined hu
    cases f
    case seg r =>
      refine finishes_movSregRm (fun hr => ?_) hf hu
      subst hr
      cases hd
    case six | seven => cases hd
  case cmc | clc | stc | cli | cld | std => exact finishes_setFlag hf rfl (List.mem_singleton_self _) rfl
  case sti => exact finishes_sti hf
  case hlt => exact finishes_hlt hf
  case rdtsc => exact finishes_rdtsc hf
  case inAlImm8 p => exact finishes_port p hf hu (by simp)
  case outImm8Al p => exact finishes_port p hf hu (by simp)
  case inAlDx | inAxDx | outDxAl | outDxAx => exact finishes_port 0 hf hu (by simp)
  all_goals first | (cases hline; done) | (cases h2; done) | cases hs

/-- Settles O8: an instruction that may run runs to `next_ip` within its frame, and its end sets EIP and the shadow. -/
theorem straightLineFrame : Obligations.StraightLineFrame := by
  intro i s hruns
  obtain ⟨t, h, he, hframe, hshadow⟩ := finishes_of_runs hruns
  have hsystem := hframe.system
  simp only [Eflags.system, Prod.mk.injEq] at hsystem
  obtain ⟨hiopl, hnt, hrf, hvm, hvif, hvip, hid⟩ := hsystem
  have hc := hframe.carries
  exact ⟨_, he, congrArg zext32 (State.nextIp_of_eip hframe.eip i), hframe.regs, fun r hi => hframe.upper hi r,
    hframe.flags, hiopl, hnt, hrf, hvm, hvif, hvip, hid, hframe.segs, fun r => ⟨hc.limit r, hframe.attrs r⟩,
    hframe.mem, hframe.clean, hframe.answers, hframe.trace, hframe.run, hframe.tsc,
    congrArg (fun l => { l with shadow := h }) hframe.latch, hshadow, hc.sys, hc.fpu, hc.msr, hc.smm, hc.bfRatio,
    hc.tap, hc.pins, hc.schedule, hc.board⟩

end Sys2Proof.Machine
end

section
/-! PROOFS. `dirty_code`: what marks code as stored to, and what empties it: O6. -/

namespace Sys2Proof.Machine

/-! ### What an answer of a computation satisfies -/

/-- Where `m`, begun in `s`, answers, the answer and the state it leaves satisfy `P`. -/
def Answers {α : Type} (P : α → State → Prop) (m : M α) (s : State) : Prop := ∀ a t, m s = .ok (a, t) → P a t

section
variable {α β : Type} {P : β → State → Prop} {s : State}

/-- A sequence answers what its last part answers. -/
theorem answers_bind {m : M α} {f : α → M β} (h : ∀ a t, Answers P (f a) t) : Answers P (m >>= f) s := by
  intro b u hb
  cases hm : m s with
  | ok p => exact h p.1 p.2 b u (by rwa [run_bind_ok hm] at hb)
  | error e => rw [run_bind_error hm] at hb; cases hb

theorem answers_pure {b : β} (h : P b s) : Answers P (pure b) s := fun _ _ hb => by cases hb; exact h

theorem answers_ite {c : Prop} [Decidable c] {m n : M β} (hm : c → Answers P m s) (hn : ¬ c → Answers P n s) :
    Answers P (if c then m else n) s := by
  split
  · next hc => exact hm hc
  · next hc => exact hn hc

end

/-! ### A transfer taken and a trap entry empty `dirty_code` -/

/-- A core that still runs after `o` has no byte marked. -/
def Empties (o : Host.Outcome State Fault Refusal) : Prop := ∀ t, o = .next t → t.run = .running → t.dirty = []

/-- A computation that sticks or faults leaves no running core, so what follows its answer or exception decides. -/
theorem empties_conclude {α : Type} {m : M α} {s : State}
    {ok : α → State → Host.Outcome State Fault Refusal} {raised : Exc → State → Host.Outcome State Fault Refusal}
    (hok : Answers (fun a t => Empties (ok a t)) m s) (hr : ∀ e t, Empties (raised e t)) :
    Empties (conclude (m s) ok raised) := by
  intro u hu hrun
  cases hm : m s with
  | ok p => exact hok p.1 p.2 hm u (by rwa [hm] at hu) hrun
  | error e =>
    rw [hm] at hu
    cases e with
    | raise x t => exact hr x t u hu hrun
    | stuck t => cases hu; cases hrun
    | fault | refused => cases hu

/-- The fourteen reads, checks and stores of an entry come before the update that empties `dirty_code` (R366). -/
theorem answers_trapEntry (n : Byte) (rip : Word) (s : State) :
    Answers (fun _ t => t.dirty = []) (trapEntry n rip) s := by
  refine answers_bind fun idtr _ => answers_ite (fun _ _ _ h => by cases h) fun _ => ?_
  iterate 14 refine answers_bind fun _ _ => ?_
  intro _ t h
  cases h
  rfl

theorem empties_deliver (n : Byte) (c : Bool) (rip : Word) (s : State) : Empties (deliver n c rip s) := by
  have hentry : ∀ n s, Answers (fun (_ : Unit) t => Empties (.next t)) (trapEntry n rip) s := fun n s a t h u hu _ => by
    cases hu
    exact answers_trapEntry n rip s a t h
  refine empties_conclude (hentry n s) fun e t => empties_conclude (hentry _ t) fun _ u v hv hrun => ?_
  cases hv
  cases hrun

theorem empties_deliverFault (e : Exc) (s : State) : Empties (deliverFault e s) := empties_deliver _ _ _ s

theorem empties_softwareInterrupt (i : Instr) (n : Byte) (s : State) : Empties (softwareInterrupt i n s) :=
  empties_conclude (fun rip t _ => empties_deliver n false rip t) empties_deliverFault

theorem complete_eq {s t : State} (h : complete s = .next t) : t = s := by
  unfold complete at h
  split at h
  · cases h
  · exact (Host.Outcome.next.inj h).symm

/-- The flow is to a target. -/
def IsGoto (f : Flow) (_ : State) : Prop := ∃ target, f = .goto target

/-- A transfer whose body only ever answers a target is taken, or takes an exception. -/
theorem empties_transfer {i : Instr} {body : M Flow} {s : State} (h : Answers IsGoto body s) :
    Empties (transfer i body s) := by
  refine empties_conclude (fun f t hf u hu _ => ?_) empties_deliverFault
  obtain ⟨target, rfl⟩ := h f t hf
  rw [complete_eq hu]
  rfl

theorem answers_goto (target : Word) (s : State) : Answers IsGoto (pure (.goto target)) s := answers_pure ⟨target, rfl⟩

theorem answers_relJump (i : Instr) (disp : Word) (s : State) : Answers IsGoto (relJump i disp) s :=
  answers_bind fun t _ => answers_bind fun _ u => answers_goto t u

theorem empties_jumpIf {i : Instr} {rel : Byte} {cond : State → Bool} {s : State} (h : cond s = true) :
    Empties (jumpIf i rel cond s) := by
  refine empties_transfer fun f t hf => ?_
  rw [run_view_bind, if_pos h] at hf
  exact answers_relJump _ _ s f t hf

theorem empties_jmpFar (seg off : Word) (s : State) : Empties (execJmpFar seg off s) :=
  empties_transfer (answers_bind fun _ _ => answers_bind fun _ t => answers_goto off t)

theorem empties_callRel16 (rel : Word) (s : State) : Empties (execCallRel16 rel s) :=
  empties_transfer (answers_bind fun _ _ => answers_bind fun target _ => answers_bind fun _ _ =>
    answers_bind fun _ t => answers_goto target t)

theorem empties_ret (s : State) : Empties (execRet s) :=
  empties_transfer (answers_bind fun target _ => answers_bind fun _ _ => answers_bind fun _ t => answers_goto target t)

theorem empties_iret (s : State) : Empties (execIret s) :=
  empties_transfer (answers_bind fun target t => answers_goto target t)

theorem empties_loop (rel : Byte) {s : State} (h : s.r16 .cx ≠ 1) : Empties (execLoop rel s) := by
  refine empties_transfer fun f t hf => ?_
  rw [run_view_bind, if_neg (mt (word_sub_one_eq_zero _).1 h)] at hf
  have htaken : Answers IsGoto (do
      let target ← view (relTarget (.loop rel) (sext16 rel))
      checkTarget target
      update fun t => t.setR16 .cx (s.r16 .cx - 1)
      return .goto target) s :=
    answers_bind fun target _ => answers_bind fun _ _ => answers_bind fun _ t => answers_goto target t
  exact htaken f t hf

/-- Every transfer of control but the Jcc and LOOP that are not taken. -/
theorem empties_exec {i : Instr} {s : State} (ht : transfers i = true) (hn : s.notTaken i = false) :
    Empties (exec i s) := by
  cases hj : jccForm i with
  | some p =>
    rw [exec_jcc hj]
    exact empties_jumpIf (by simpa [State.notTaken, hj] using hn)
  | none =>
    cases i
    case jmpRel8 rel => exact empties_transfer (answers_relJump _ _ s)
    case jmpRel16 rel => exact empties_transfer (answers_relJump _ _ s)
    case jmpFar seg off => exact empties_jmpFar seg off s
    case callRel16 rel => exact empties_callRel16 rel s
    case ret => exact empties_ret s
    case loop rel => exact empties_loop rel (of_decide_eq_false hn)
    case intImm8 n => exact empties_softwareInterrupt _ n s
    case int3 => exact empties_softwareInterrupt _ 3 s
    case iret => exact empties_iret s
    all_goals first | (cases ht; done) | cases hj

/-! ### A transfer not taken keeps `dirty_code` -/

theorem follow_next_dirty {i : Instr} {s t u : State} (h : follow i s .next t = .next u) : u.dirty = t.dirty := by
  rw [follow] at h
  by_cases hp : s.pastLimit i = true
  · rw [if_pos hp] at h
    cases h
  · rw [if_neg hp] at h
    rw [complete_eq h]
    rfl

theorem exec_notTaken_dirty {i : Instr} {s t : State} (hn : s.notTaken i = true) (h : exec i s = .next t) :
    t.dirty = s.dirty := by
  cases hj : jccForm i with
  | some p =>
    obtain ⟨rel, cond⟩ := p
    have hc : cond s = false := by simpa [State.notTaken, hj] using hn
    rw [exec_jcc_notTaken hj hc] at h
    exact follow_next_dirty h
  | none =>
    cases i
    case loop rel =>
      rw [exec_loop_notTaken (of_decide_eq_true hn)] at h
      exact (follow_next_dirty h).trans (State.setR16_dirty s .cx 0)
    all_goals first | cases hn | cases hj

/-- Settles O6: the frame of an instruction that stores, and the ends of a transfer. -/
theorem storesMarkCodeUntilJump : Obligations.StoresMarkCodeUntilJump := by
  refine ⟨fun i s t hruns he => ?_, fun i s t ht he hrun => ⟨fun hn => ?_, fun hn => ?_⟩,
    fun n c rip s t he hrun => empties_deliver n c rip s t he hrun⟩
  · obtain ⟨u, h, hu, hframe, -⟩ := finishes_of_runs hruns
    cases hu.symm.trans he
    exact hframe.dirty
  · exact empties_exec ht hn t he hrun
  · exact exec_notTaken_dirty hn he

end Sys2Proof.Machine
end

section
/-! PROOFS. Fields and operands of an encoding, read back and written out again (R106 to R110, R113). -/

namespace Sys2Proof

/-! ### Field tables (R107, R110) -/

@[simp] theorem Reg.ofCode_code (r : Reg) : Reg.ofCode r.code.toNat = r := by cases r <;> rfl

@[simp] theorem EaBase.ofCode_code (b : EaBase) : EaBase.ofCode b.code.toNat = b := by cases b <;> rfl

@[simp] theorem SregField.ofCode_code (f : SregField) : SregField.ofCode f.code.toNat = f := by
  cases f with
  | seg r => cases r <;> rfl
  | six => rfl
  | seven => rfl

@[simp] theorem Reg.code_ofCode (g : BitVec 3) : (Reg.ofCode g.toNat).code = g := by
  revert g; decide

@[simp] theorem SregField.code_ofCode (g : BitVec 3) : (SregField.ofCode g.toNat).code = g := by
  revert g; decide

@[simp] theorem EaBase.code_ofCode (g : BitVec 3) : (EaBase.ofCode g.toNat).code = g := by
  revert g; decide

/-! ### The ModRM byte (R107) -/

@[simp] theorem modRm_mod (m : BitVec 2) (g r : BitVec 3) : (m ++ g ++ r).extractLsb' 6 2 = m := by
  revert m g r; decide

@[simp] theorem modRm_reg (m : BitVec 2) (g r : BitVec 3) : (m ++ g ++ r).extractLsb' 3 3 = g := by
  revert m g r; decide

@[simp] theorem modRm_rm (m : BitVec 2) (g r : BitVec 3) : (m ++ g ++ r).extractLsb' 0 3 = r := by
  revert m g r; decide

theorem modRm_fields (b : Byte) : ∃ (m : BitVec 2) (g r : BitVec 3), b = m ++ g ++ r :=
  ⟨b.extractLsb' 6 2, b.extractLsb' 3 3, b.extractLsb' 0 3, by revert b; decide⟩

/-- What follows a ModRM byte with these `mod` and `rm` fields, where its `reg` field selects an operation (R107). -/
def takeOperand (m : BitVec 2) (r : BitVec 3) (bs : List Byte) (k : Rm → List Byte → Decoded) : Decoded :=
  match m.toNat with
  | 0 => if r.toNat = 6 then takeWord bs fun d => k (.direct d) else k (.based (EaBase.ofCode r.toNat) .none) bs
  | 1 => takeByte bs fun d => k (.based (EaBase.ofCode r.toNat) (.d8 d))
  | 2 => takeWord bs fun d => k (.based (EaBase.ofCode r.toNat) (.d16 d))
  | _ => k (.reg (Reg.ofCode r.toNat)) bs

theorem takeModRm_take {g : BitVec 3} {arm : Nat → RegArm} {k : Rm → List Byte → Decoded}
    (h : arm g.toNat = .take k) (m : BitVec 2) (r : BitVec 3) (bs : List Byte) :
    takeModRm ((m ++ g ++ r) :: bs) arm = takeOperand m r bs k := by
  rw [takeModRm, takeByte, modRm_mod, modRm_reg, modRm_rm, h]
  rfl

/-- Only BP alone shares its `rm` field with the direct offset, and it is not well formed (R107). -/
theorem EaBase.code_eq_six {b : EaBase} : b.code.toNat = 6 ↔ (Rm.based b .none).wellFormed = false := by
  cases b <;> decide

section
variable (bs : List Byte) (k : Rm → List Byte → Decoded)

theorem takeOperand_reg (r : Reg) : takeOperand 0b11#2 r.code bs k = k (.reg r) bs := by
  change k (.reg (Reg.ofCode r.code.toNat)) bs = _
  rw [Reg.ofCode_code]

theorem takeOperand_direct : takeOperand 0b00#2 0b110#3 bs k = takeWord bs fun d => k (.direct d) := rfl

theorem takeOperand_based {b : EaBase} (h : (Rm.based b .none).wellFormed = true) :
    takeOperand 0b00#2 b.code bs k = k (.based b .none) bs := by
  have h6 : b.code.toNat ≠ 6 := by simp [EaBase.code_eq_six, h]
  change (if b.code.toNat = 6 then _ else k (.based (EaBase.ofCode b.code.toNat) .none) bs) = _
  rw [if_neg h6, EaBase.ofCode_code]

theorem takeOperand_d8 (b : EaBase) :
    takeOperand 0b01#2 b.code bs k = takeByte bs fun d => k (.based b (.d8 d)) := by
  change (takeByte bs fun d => k (.based (EaBase.ofCode b.code.toNat) (.d8 d))) = _
  rw [EaBase.ofCode_code]

theorem takeOperand_d16 (b : EaBase) :
    takeOperand 0b10#2 b.code bs k = takeWord bs fun d => k (.based b (.d16 d)) := by
  change (takeWord bs fun d => k (.based (EaBase.ofCode b.code.toNat) (.d16 d))) = _
  rw [EaBase.ofCode_code]

end

theorem takeModRm_refuse {g : BitVec 3} {arm : Nat → RegArm} {n : RefusedEncoding}
    (h : arm g.toNat = .refuse n) (m : BitVec 2) (r : BitVec 3) (bs : List Byte) :
    takeModRm ((m ++ g ++ r) :: bs) arm = .refused n := by
  rw [takeModRm, takeByte, modRm_reg, h]

end Sys2Proof
end

section
/-! PROOFS. The encoding of a well-formed instruction decodes to it (R101, R106 to R113): O1, O2. -/

namespace Sys2Proof

/-! ### Operands (R107, R109) -/

theorem takeWord_encodeWord (w : Word) (rest : List Byte) (k : Word → List Byte → Decoded) :
    takeWord (encodeWord w ++ rest) k = k w rest :=
  congrArg (k · rest) (Machine.joinBytes_split w)

/-- An encoded r/m operand is read back where the `reg` field selects an operation (R107, R113). -/
theorem takeModRm_encodeRm {rm : Rm} {g : BitVec 3} {arm : Nat → RegArm} {k : Rm → List Byte → Decoded}
    (hw : rm.wellFormed = true) (h : arm g.toNat = .take k) (rest : List Byte) :
    takeModRm (encodeRm g rm ++ rest) arm = k rm rest := by
  cases rm with
  | reg r => exact (takeModRm_take h _ _ _).trans (takeOperand_reg rest k r)
  | direct d =>
    exact (takeModRm_take h _ _ (encodeWord d ++ rest)).trans (takeWord_encodeWord d rest fun d => k (.direct d))
  | based b disp =>
    cases disp with
    | none => exact (takeModRm_take h _ _ _).trans (takeOperand_based rest k hw)
    | d8 v => exact (takeModRm_take h _ _ (v :: rest)).trans (takeOperand_d8 (v :: rest) k b)
    | d16 v =>
      exact ((takeModRm_take h _ _ (encodeWord v ++ rest)).trans (takeOperand_d16 _ k b)).trans
        (takeWord_encodeWord v rest fun d => k (.based b (.d16 d)))

/-! ### Formats (R106) -/

theorem formM_encodeRm {rm : Rm} (hw : rm.wellFormed = true) (r : Reg) (f : Rm → Reg → Instr) (rest : List Byte) :
    formM (encodeRm r.code rm ++ rest) f = .instr (f rm r) rest := by
  rw [formM, takeModRm_encodeRm hw rfl, Reg.ofCode_code]

/-- The same where the register is the destination, which stands first in the term (R119). -/
theorem formM_encodeRm_dest {rm : Rm} (hw : rm.wellFormed = true) (r : Reg) (f : Reg → Rm → Instr)
    (rest : List Byte) : formM (encodeRm r.code rm ++ rest) (fun rm r => f r rm) = .instr (f r rm) rest :=
  formM_encodeRm hw r (fun rm r => f r rm) rest

theorem formSreg_encodeRm {rm : Rm} (hw : rm.wellFormed = true) (r : SregField) (f : Rm → SregField → Instr)
    (rest : List Byte) : formSreg (encodeRm r.code rm ++ rest) f = .instr (f rm r) rest := by
  rw [formSreg, takeModRm_encodeRm hw rfl, SregField.ofCode_code]

theorem formI16_encodeWord (w : Word) (f : Word → Instr) (rest : List Byte) :
    formI16 (encodeWord w ++ rest) f = .instr (f w) rest := takeWord_encodeWord w rest _

section
variable {rm : Rm} {g : BitVec 3} {arm : Nat → RegArm} (hw : rm.wellFormed = true) (rest : List Byte)
include hw

theorem takeModRm_armM {f : Rm → Instr} (h : arm g.toNat = armM f) :
    takeModRm (encodeRm g rm ++ rest) arm = .instr (f rm) rest := takeModRm_encodeRm hw h rest

theorem takeModRm_armMI8 {f : Rm → Byte → Instr} (h : arm g.toNat = armMI8 f) (v : Byte) :
    takeModRm (encodeRm g rm ++ [v] ++ rest) arm = .instr (f rm v) rest := by
  rw [List.append_assoc, takeModRm_encodeRm hw h]
  rfl

theorem takeModRm_armMI16 {f : Rm → Word → Instr} (h : arm g.toNat = armMI16 f) (w : Word) :
    takeModRm (encodeRm g rm ++ encodeWord w ++ rest) arm = .instr (f rm w) rest := by
  rw [List.append_assoc, takeModRm_encodeRm hw h, takeWord_encodeWord]

end

/-! ### The codes of the TAP (R101) -/

/-- Each of the five codes names its own instruction, because the codes are distinct (D16). -/
theorem decodeIr_codes {p : Machine.TapCodes} (h : p.wf = true) :
    decodeIr p p.extest = some .extest ∧ decodeIr p p.sample = some .samplePreload ∧
      decodeIr p p.idcode = some .idcode ∧ decodeIr p p.highz = some .highz ∧ decodeIr p p.bypass = some .bypass := by
  have hd := p.wf_distinct h
  simp only [Machine.TapCodes.all, List.nodup_cons, List.mem_cons, List.not_mem_nil, or_false, not_or] at hd
  obtain ⟨⟨hes, hei, hez, heb⟩, ⟨hsi, hsz, hsb⟩, ⟨hiz, hib⟩, hzb, -⟩ := hd
  refine ⟨?_, ?_, ?_, ?_, ?_⟩
  · rw [decodeIr, if_pos rfl]
  · rw [decodeIr, if_neg (Ne.symm hes), if_pos rfl]
  · rw [decodeIr, if_neg (Ne.symm hei), if_neg (Ne.symm hsi), if_pos rfl]
  · rw [decodeIr, if_neg (Ne.symm hez), if_neg (Ne.symm hsz), if_neg (Ne.symm hiz), if_pos rfl]
  · rw [decodeIr, if_neg (Ne.symm heb), if_neg (Ne.symm hsb), if_neg (Ne.symm hib), if_neg (Ne.symm hzb), if_pos rfl]

/-! ### Every instruction -/

/-- Settles O2: by the format of the instruction's encoding. -/
theorem decodeOfEncode : Obligations.DecodeOfEncode := by
  intro p i rest hp hw
  obtain ⟨hextest, hsample, hidcode, hhighz, hbypass⟩ := decodeIr_codes hp
  cases i with
  | extest => exact hextest
  | samplePreload => exact hsample
  | idcode => exact hidcode
  | highz => exact hhighz
  | bypass => exact hbypass
  -- `OP_M` with a register in the `reg` field
  | addRmR rm r | orRmR rm r | adcRmR rm r | sbbRmR rm r | andRmR rm r | subRmR rm r | xorRmR rm r | cmpRmR rm r
  | testRmR rm r | movRmR rm r => exact formM_encodeRm hw r _ rest
  | addRRm r rm | orRRm r rm | adcRRm r rm | sbbRRm r rm | andRRm r rm | subRRm r rm | xorRRm r rm | cmpRRm r rm
  | movRRm r rm => exact formM_encodeRm_dest hw r _ rest
  -- `OP_M` with a segment register number there
  | movRmSreg rm sr => exact formSreg_encodeRm hw sr .movRmSreg rest
  | movSregRm sr rm => exact formSreg_encodeRm hw sr (fun rm sr => .movSregRm sr rm) rest
  -- members of the groups
  | addRmImm16 rm w | orRmImm16 rm w | adcRmImm16 rm w | sbbRmImm16 rm w | andRmImm16 rm w | subRmImm16 rm w
  | xorRmImm16 rm w | cmpRmImm16 rm w | testRmImm16 rm w | movRmImm16 rm w => exact takeModRm_armMI16 hw rest rfl w
  | addRmImm8 rm v | orRmImm8 rm v | adcRmImm8 rm v | sbbRmImm8 rm v | andRmImm8 rm v | subRmImm8 rm v
  | xorRmImm8 rm v | cmpRmImm8 rm v | shlRmImm8 rm v | shrRmImm8 rm v | sarRmImm8 rm v =>
    exact takeModRm_armMI8 hw rest rfl v
  | shlRm1 rm | shrRm1 rm | sarRm1 rm | shlRmCl rm | shrRmCl rm | sarRmCl rm | notRm rm | negRm rm | mulRm rm
  | imulRm rm | divRm rm | idivRm rm => exact takeModRm_armM hw rest rfl
  -- a word, or two, after the opcode
  | addAxImm w | orAxImm w | adcAxImm w | sbbAxImm w | andAxImm w | subAxImm w | xorAxImm w | cmpAxImm w
  | movAxMoffs w | movMoffsAx w | callRel16 w | jmpRel16 w => exact formI16_encodeWord w _ rest
  | jmpFar seg off =>
    exact congrArg₂ (fun seg off => Decoded.instr (.jmpFar seg off) rest) (Machine.joinBytes_split seg)
      (Machine.joinBytes_split off)
  -- a register in the opcode
  | incR r | decR r | pushR r | popR r => cases r <;> rfl
  | movR8Imm8 r v => cases r <;> rfl
  | movRImm16 r w => cases r <;> exact formI16_encodeWord w _ rest
  -- a byte after the opcode, or none
  | jo v | jno v | jb v | jae v | je v | jne v | jbe v | ja v | js v | jns v | jp v | jnp v | jl v | jge v | jle v
  | jg v | loop v | jmpRel8 v | intImm8 v | inAlImm8 v | outImm8Al v => rfl
  | nop | ret | int3 | iret | inAlDx | inAxDx | outDxAl | outDxAx | hlt | cmc | clc | stc | cli | sti | cld | std
  | rdtsc => rfl

/-- Settles O1: by running the decoder on each of the words. -/
theorem decodeWrittenWords : Obligations.DecodeWrittenWords := by
  refine ⟨?_, ?_, ?_, ?_, ?_, ?_, ?_, ?_, ?_, ?_⟩ <;> decide

end Sys2Proof
end

section
/-! PROOFS. What decodes is its own encoding (R105 to R113): O3. -/

namespace Sys2Proof

/-- Whatever instruction the answer `d` names is well formed, and the bytes `bs` are its encoding and what is left. -/
def Decoded.SpelledBy (d : Decoded) (bs : List Byte) : Prop :=
  ∀ i rest, d = .instr i rest → i.wellFormed = true ∧ ∃ word, (∀ p, encode p i = .bytes word) ∧ bs = word ++ rest

theorem spelled_instr {i : Instr} {word : List Byte} (hw : i.wellFormed = true) (he : ∀ p, encode p i = .bytes word)
    (rest : List Byte) : (Decoded.instr i rest).SpelledBy (word ++ rest) := by
  rintro _ _ ⟨⟩
  exact ⟨hw, word, he, rfl⟩

theorem spelled_refused (n : RefusedEncoding) (bs : List Byte) : (Decoded.refused n).SpelledBy bs :=
  fun _ _ e => by cases e

/-! ### Operands, after the bytes `pre` -/

theorem spelled_takeByte {pre : List Byte} {k : Byte → List Byte → Decoded}
    (h : ∀ b rest, (k b rest).SpelledBy (pre ++ [b] ++ rest)) (bs : List Byte) :
    (takeByte bs k).SpelledBy (pre ++ bs) := by
  cases bs with
  | nil => intro i rest e; cases e
  | cons b rest => simpa [takeByte] using h b rest

theorem spelled_takeWord {pre : List Byte} {k : Word → List Byte → Decoded}
    (h : ∀ w rest, (k w rest).SpelledBy (pre ++ encodeWord w ++ rest)) (bs : List Byte) :
    (takeWord bs k).SpelledBy (pre ++ bs) := by
  match bs with
  | [] => intro i rest e; cases e
  | [_] => intro i rest e; cases e
  | lo :: hi :: rest => simpa [takeWord, encodeWord] using h (Machine.joinBytes lo hi) rest

/-- The same of what the field `g` of ModRM selects: the bytes of the operand come before what it takes. -/
def RegArm.SpelledBy (pre : List Byte) (g : BitVec 3) : RegArm → Prop
  | .refuse _ => True
  | .take k => ∀ rm rest, rm.wellFormed = true → (k rm rest).SpelledBy (pre ++ encodeRm g rm ++ rest)

theorem Rm.wellFormed_d8 (b : EaBase) (d : Byte) : (Rm.based b (.d8 d)).wellFormed = true := by cases b <;> rfl

theorem Rm.wellFormed_d16 (b : EaBase) (d : Word) : (Rm.based b (.d16 d)).wellFormed = true := by cases b <;> rfl

/-- Every `mod` and `rm` field stands for one well-formed operand, with the displacement after it (R107). -/
theorem spelled_takeOperand {pre : List Byte} {g : BitVec 3} {k : Rm → List Byte → Decoded}
    (h : (RegArm.take k).SpelledBy pre g) (m : BitVec 2) (r : BitVec 3) (bs : List Byte) :
    (takeOperand m r bs k).SpelledBy (pre ++ [m ++ g ++ r] ++ bs) := by
  have hm : m = 0b00#2 ∨ m = 0b01#2 ∨ m = 0b10#2 ∨ m = 0b11#2 := by revert m; decide
  obtain ⟨b, rfl⟩ : ∃ b : EaBase, b.code = r := ⟨_, EaBase.code_ofCode r⟩
  rcases hm with rfl | rfl | rfl | rfl
  · cases hw : (Rm.based b .none).wellFormed with
    | true =>
      rw [takeOperand_based bs k hw]
      exact h (.based b .none) bs hw
    | false =>
      have hb : b.code = 0b110#3 := BitVec.eq_of_toNat_eq (EaBase.code_eq_six.2 hw)
      rw [hb, takeOperand_direct]
      exact spelled_takeWord (fun d rest => by simpa [encodeRm, encodeWord] using h (.direct d) rest rfl) bs
  · rw [takeOperand_d8]
    exact spelled_takeByte (fun d rest => by simpa [encodeRm] using h _ rest (Rm.wellFormed_d8 b d)) bs
  · rw [takeOperand_d16]
    exact spelled_takeWord (fun d rest => by simpa [encodeRm, encodeWord] using h _ rest (Rm.wellFormed_d16 b d)) bs
  · obtain ⟨q, hq⟩ : ∃ q : Reg, q.code = b.code := ⟨_, Reg.code_ofCode b.code⟩
    rw [← hq, takeOperand_reg]
    exact h (.reg q) bs rfl

theorem spelled_takeModRm {pre : List Byte} {arm : Nat → RegArm}
    (h : ∀ g : BitVec 3, (arm g.toNat).SpelledBy pre g) (bs : List Byte) :
    (takeModRm bs arm).SpelledBy (pre ++ bs) := by
  cases bs with
  | nil => intro i rest e; cases e
  | cons b rest =>
    obtain ⟨m, g, r, rfl⟩ := modRm_fields b
    have hg := h g
    cases ha : arm g.toNat with
    | refuse n =>
      rw [takeModRm_refuse ha]
      exact spelled_refused n _
    | take k =>
      rw [ha] at hg
      rw [takeModRm_take ha, List.append_cons]
      exact spelled_takeOperand hg m r rest

/-! ### Formats (R106), after the opcode `b` -/

section
variable {b : Byte}

theorem spelled_formM {f : Rm → Reg → Instr} (hw : ∀ rm r, (f rm r).wellFormed = rm.wellFormed)
    (he : ∀ p rm r, encode p (f rm r) = .bytes (b :: encodeRm r.code rm)) (bs : List Byte) :
    (formM bs f).SpelledBy (b :: bs) := by
  refine spelled_takeModRm (pre := [b]) (fun g rm rest h => ?_) bs
  exact spelled_instr ((hw _ _).trans h) (fun p => by rw [he, Reg.code_ofCode]; rfl) rest

theorem spelled_formSreg {f : Rm → SregField → Instr} (hw : ∀ rm r, (f rm r).wellFormed = rm.wellFormed)
    (he : ∀ p rm r, encode p (f rm r) = .bytes (b :: encodeRm r.code rm)) (bs : List Byte) :
    (formSreg bs f).SpelledBy (b :: bs) := by
  refine spelled_takeModRm (pre := [b]) (fun g rm rest h => ?_) bs
  exact spelled_instr ((hw _ _).trans h) (fun p => by rw [he, SregField.code_ofCode]; rfl) rest

theorem spelled_formI8 {f : Byte → Instr} (hw : ∀ v, (f v).wellFormed = true)
    (he : ∀ p v, encode p (f v) = .bytes [b, v]) (bs : List Byte) : (formI8 bs f).SpelledBy (b :: bs) :=
  spelled_takeByte (pre := [b]) (fun v rest => spelled_instr (hw v) (he · v) rest) bs

theorem spelled_formI16 {f : Word → Instr} (hw : ∀ w, (f w).wellFormed = true)
    (he : ∀ p w, encode p (f w) = .bytes (b :: encodeWord w)) (bs : List Byte) :
    (formI16 bs f).SpelledBy (b :: bs) :=
  spelled_takeWord (pre := [b]) (fun w rest => spelled_instr (hw w) (he · w) rest) bs

/-! ### Groups (R113) -/

variable {g : BitVec 3}

theorem spelled_armM {f : Rm → Instr} (hw : ∀ rm, (f rm).wellFormed = rm.wellFormed)
    (he : ∀ p rm, encode p (f rm) = .bytes (b :: encodeRm g rm)) : (armM f).SpelledBy [b] g :=
  fun rm rest h => spelled_instr ((hw rm).trans h) (he · rm) rest

theorem spelled_armMI8 {f : Rm → Byte → Instr} (hw : ∀ rm v, (f rm v).wellFormed = rm.wellFormed)
    (he : ∀ p rm v, encode p (f rm v) = .bytes (b :: encodeRm g rm ++ [v])) : (armMI8 f).SpelledBy [b] g :=
  fun rm bs h => spelled_takeByte (fun v rest => spelled_instr ((hw rm v).trans h) (he · rm v) rest) bs

theorem spelled_armMI16 {f : Rm → Word → Instr} (hw : ∀ rm w, (f rm w).wellFormed = rm.wellFormed)
    (he : ∀ p rm w, encode p (f rm w) = .bytes (b :: encodeRm g rm ++ encodeWord w)) :
    (armMI16 f).SpelledBy [b] g :=
  fun rm bs h => spelled_takeWord (fun w rest => spelled_instr ((hw rm w).trans h) (he · rm w) rest) bs

end

theorem regField_cases (g : BitVec 3) : g = 0 ∨ g = 1 ∨ g = 2 ∨ g = 3 ∨ g = 4 ∨ g = 5 ∨ g = 6 ∨ g = 7 := by
  revert g; decide

theorem spelled_group81 (g : BitVec 3) : (group81 g.toNat).SpelledBy [0x81#8] g := by
  rcases regField_cases g with rfl | rfl | rfl | rfl | rfl | rfl | rfl | rfl
  all_goals exact spelled_armMI16 (fun _ _ => rfl) fun _ _ _ => rfl

theorem spelled_group83 (g : BitVec 3) : (group83 g.toNat).SpelledBy [0x83#8] g := by
  rcases regField_cases g with rfl | rfl | rfl | rfl | rfl | rfl | rfl | rfl
  all_goals exact spelled_armMI8 (fun _ _ => rfl) fun _ _ _ => rfl

theorem spelled_groupC1 (g : BitVec 3) : (groupC1 g.toNat).SpelledBy [0xC1#8] g := by
  rcases regField_cases g with rfl | rfl | rfl | rfl | rfl | rfl | rfl | rfl
  iterate 4 trivial
  · exact spelled_armMI8 (fun _ _ => rfl) fun _ _ _ => rfl
  · exact spelled_armMI8 (fun _ _ => rfl) fun _ _ _ => rfl
  · trivial
  · exact spelled_armMI8 (fun _ _ => rfl) fun _ _ _ => rfl

theorem spelled_groupD1 (g : BitVec 3) : (groupD1 g.toNat).SpelledBy [0xD1#8] g := by
  rcases regField_cases g with rfl | rfl | rfl | rfl | rfl | rfl | rfl | rfl
  iterate 4 trivial
  · exact spelled_armM (fun _ => rfl) fun _ _ => rfl
  · exact spelled_armM (fun _ => rfl) fun _ _ => rfl
  · trivial
  · exact spelled_armM (fun _ => rfl) fun _ _ => rfl

theorem spelled_groupD3 (g : BitVec 3) : (groupD3 g.toNat).SpelledBy [0xD3#8] g := by
  rcases regField_cases g with rfl | rfl | rfl | rfl | rfl | rfl | rfl | rfl
  iterate 4 trivial
  · exact spelled_armM (fun _ => rfl) fun _ _ => rfl
  · exact spelled_armM (fun _ => rfl) fun _ _ => rfl
  · trivial
  · exact spelled_armM (fun _ => rfl) fun _ _ => rfl

theorem spelled_groupC7 (g : BitVec 3) : (groupC7 g.toNat).SpelledBy [0xC7#8] g := by
  rcases regField_cases g with rfl | rfl | rfl | rfl | rfl | rfl | rfl | rfl
  · exact spelled_armMI16 (fun _ _ => rfl) fun _ _ _ => rfl
  all_goals trivial

theorem spelled_groupF7 (g : BitVec 3) : (groupF7 g.toNat).SpelledBy [0xF7#8] g := by
  rcases regField_cases g with rfl | rfl | rfl | rfl | rfl | rfl | rfl | rfl
  · exact spelled_armMI16 (fun _ _ => rfl) fun _ _ _ => rfl
  · trivial
  all_goals exact spelled_armM (fun _ => rfl) fun _ _ => rfl

/-! ### Every opcode (R112) -/

theorem spelled_jmpFar (bs : List Byte) :
    (takeWord bs fun off bs => takeWord bs fun seg rest => .instr (.jmpFar seg off) rest).SpelledBy (0xEA#8 :: bs) :=
  spelled_takeWord (pre := [0xEA#8])
    (fun _ bs => spelled_takeWord (fun _ rest => spelled_instr rfl (fun _ => rfl) rest) bs) bs

theorem spelled_twoByte (bs : List Byte) :
    (takeByte bs fun b rest => if b = 0x31#8 then .instr .rdtsc rest else .refused .twoByteOpcode).SpelledBy
      (0x0F#8 :: bs) := by
  refine spelled_takeByte (pre := [0x0F#8]) (fun b rest => ?_) bs
  split
  · next hb =>
    subst hb
    exact spelled_instr rfl (fun _ => rfl) rest
  · exact spelled_refused _ _

theorem spelled_decodeOpcode (b : Byte) (bs : List Byte) : (decodeOpcode b bs).SpelledBy (b :: bs) := by
  unfold decodeOpcode
  split
  all_goals first
    | exact spelled_instr (word := [_]) rfl (fun _ => rfl) bs
    | exact spelled_refused _ _
    | exact spelled_formM (fun _ _ => rfl) (fun _ _ _ => rfl) bs
    | exact spelled_formSreg (fun _ _ => rfl) (fun _ _ _ => rfl) bs
    | exact spelled_formI8 (fun _ => rfl) (fun _ _ => rfl) bs
    | exact spelled_formI16 (fun _ => rfl) (fun _ _ => rfl) bs
    | exact spelled_takeModRm spelled_group81 bs
    | exact spelled_takeModRm spelled_group83 bs
    | exact spelled_takeModRm spelled_groupC1 bs
    | exact spelled_takeModRm spelled_groupD1 bs
    | exact spelled_takeModRm spelled_groupD3 bs
    | exact spelled_takeModRm spelled_groupC7 bs
    | exact spelled_takeModRm spelled_groupF7 bs
    | exact spelled_jmpFar bs
    | exact spelled_twoByte bs

theorem spelled_decodeBytes (bs : List Byte) : (decodeBytes bs).SpelledBy bs := by
  cases bs with
  | nil => intro i rest e; cases e
  | cons b bs => exact spelled_decodeOpcode b bs

/-- The first six bytes decide the answer (R105). -/
theorem decodeBytes_six {bs : List Byte} (h : 6 ≤ bs.length) :
    (∃ i rest, decodeBytes bs = .instr i rest ∧ bs.length ≤ rest.length + 6) ∨ ∃ n, decodeBytes bs = .refused n := by
  obtain ⟨front, tail, rfl, hlen⟩ : ∃ front tail, bs = front ++ tail ∧ front.length = 6 :=
    ⟨bs.take 6, bs.drop 6, (List.take_append_drop 6 bs).symm, List.length_take_of_le h⟩
  cases hd : decodeBytes front with
  | more => exact absurd hlen (suffices_decodeBytes front hd).ne
  | refused n => exact .inr ⟨n, decodeBytes_append_refused hd tail⟩
  | instr i rest =>
    refine .inl ⟨i, rest ++ tail, decodeBytes_append hd tail, ?_⟩
    rw [List.length_append, List.length_append]
    omega

/-- Settles O3: what each parser takes is what the encoder writes, and the first six bytes decide the answer. -/
theorem decodedBytesAreItsEncoding : Obligations.DecodedBytesAreItsEncoding := by
  refine ⟨fun p bs rest i h => ?_, fun bs h => decodeBytes_six h⟩
  obtain ⟨hw, word, he, hbs⟩ := spelled_decodeBytes bs i rest h
  have hword : i.bytes = word := by rw [Instr.bytes, he]
  rw [hword]
  exact ⟨hw, he p, hbs⟩

end Sys2Proof
end

section
/-! PROOFS. A core that is free to run executes the instruction at CS:pc (R108, R260): O4. -/

namespace Sys2Proof.Machine

/-- A fetch of the bytes of one instruction gives it, with no effect. -/
theorem fetch_ok {s : State} {bs : List Byte} {i : Instr} (hd : decodeBytes bs = .instr i [])
    (hf : ∀ (k : Nat) (h : k < bs.length), s.fetches k bs[k]) : fetch s = .ok (i, s) := by
  obtain ⟨got, b, rfl⟩ : ∃ got b, bs = got ++ [b] :=
    (List.eq_nil_or_concat' bs).resolve_left (by rintro rfl; cases hd)
  have hmore : decodeBytes got = .more := decodeBytes_more hd (List.cons_ne_nil b [])
  have hgot : ∀ (k : Nat) (h : k < got.length), s.fetches k got[k] := fun k h => by
    have := hf k (by rw [List.length_append]; omega)
    rwa [List.getElem_append_left h] at this
  have hb : s.fetches got.length b := by
    have := hf got.length (by simp)
    rwa [List.getElem_concat_length rfl] at this
  have hlen := suffices_decodeBytes got hmore
  have hfuel : 7 = (5 - got.length) + 1 + 1 + got.length := by omega
  rw [fetch, hfuel, fetchFrom_taken hmore hgot, fetchFrom]
  simp only [hmore, run_bind_ok (fetchByte_ok hb)]
  rw [fetchFrom, hd]
  rfl

/-- Settles O4: the fetch has no effect, and what it gives is executed. -/
theorem stepRunsDecoded : Obligations.StepRunsDecoded := by
  intro s i bs hr hd hf
  rw [State.ready_step hr, executeNext, fetch_ok hd hf]
  rfl

end Sys2Proof.Machine
end

section
/-! PROOFS. A scan of the instruction register (R212 to R216): O40. -/

namespace Sys2Proof.Machine

/-- IR_CAPTURE shows a one first (D16). -/
theorem TapCodes.capture_first {p : TapCodes} (h : p.wf = true) : firstBit p.capture = .high := by
  simp only [TapCodes.wf, Bool.and_eq_true, decide_eq_true_eq] at h
  obtain ⟨-, h2⟩ := h
  match p.capture, h2 with
  | true :: _, _ => rfl

/-- What a TCK period from the controller state `c` does to the instruction register and to TDO. -/
structure IrPeriod (c : TapCtl) (tms tdi : Bool) (s t : State) : Prop where
  next : tapCycle tms tdi [] s = .next t
  held : t.tapHeld = false
  ctl : t.tap.ctl = c.after tms
  capture : c = .captureIr → t.tap.irShift = s.board.ir.capture
  shift : c = .shiftIr → t.tap.irShift = (s.tap.irShift ++ [tdi]).drop 1
  stay : c ≠ .captureIr → c ≠ .shiftIr → t.tap.irShift = s.tap.irShift
  update : c.after tms = .updateIr → t.tap.irOut = s.tap.irShift
  keep : c.after tms ≠ .updateIr → c.after tms ≠ .testLogicReset → t.tap.irOut = s.tap.irOut
  tdo : c.after tms = .shiftIr → t.tap.tdo = firstBit t.tap.irShift
  quiet : c.after tms ≠ .shiftIr → c.after tms ≠ .shiftDr → t.tap.tdo = .z

theorem tapCycle_irPeriod {s : State} {c : TapCtl} (h : s.tapHeld = false) (hc : s.tap.ctl = c) (tms tdi : Bool) :
    ∃ t, IrPeriod c tms tdi s t := by
  obtain ⟨t, ht, hctl, hshift, hout, -, -, -, -, htdo, hheld, -⟩ := tapCycle_next h tms tdi []
  rw [hc] at hctl hshift hout htdo
  refine ⟨t, ht, hheld, hctl, ?_, ?_, fun e e' => ?_, fun e => ?_, fun e e' => ?_, fun e => ?_, fun e e' => ?_⟩
  · rintro rfl
    exact hshift
  · rintro rfl
    exact hshift
  · rw [hshift]
    split
    · exact absurd rfl e
    · exact absurd rfl e'
    · rfl
  · rw [hout, e]
  · rw [hout]
    split
    · next k => exact absurd k e
    · next k => exact absurd k e'
    · rfl
  · rw [htdo, e]
  · rw [htdo]
    split
    · next k => exact absurd k e
    · next k => exact absurd k e'
    · rfl

theorem IrPeriod.run {c : TapCtl} {tms tdi : Bool} {s t : State} (h : IrPeriod c tms tdi s t) :
    tapRun tms [tdi] s = .next t := tapRun_cons h.next []

/-- Periods in Shift-IR push the bits from TDI in behind what the register held (R213). -/
theorem tapRun_shiftIr {s : State} (h : s.tapHeld = false) (hc : s.tap.ctl = .shiftIr) (vs : List Bool) :
    ∃ t, tapRun false vs s = .next t ∧ t.tapHeld = false ∧ t.tap.ctl = .shiftIr ∧
      t.tap.irShift = (s.tap.irShift ++ vs).drop vs.length ∧ t.tap.irOut = s.tap.irOut ∧
      (vs ≠ [] → t.tap.tdo = firstBit t.tap.irShift) := by
  induction vs generalizing s with
  | nil => exact ⟨s, rfl, h, hc, by simp, rfl, fun e => absurd rfl e⟩
  | cons b vs ih =>
    obtain ⟨u, hu⟩ := tapCycle_irPeriod h hc false b
    obtain ⟨t, ht, hheld, htc, hshift, hout, htdo⟩ := ih hu.held hu.ctl
    refine ⟨t, (tapRun_cons hu.next vs).trans ht, hheld, htc, ?_, hout.trans (hu.keep nofun nofun), fun _ => ?_⟩
    · have hle : 1 ≤ (s.tap.irShift ++ [b]).length := by simp
      rw [hshift, hu.shift rfl, ← List.drop_append_of_le_length hle, List.drop_drop, List.append_assoc,
        List.singleton_append, List.length_cons, Nat.add_comm]
    · cases vs with
      | nil =>
        cases ht
        exact hu.tdo rfl
      | cons c vs => exact htdo nofun

/-- IR_LEN bits shifted in behind the captured ones are all that is left of them (R212, R213, R215). -/
theorem tapRun_irScan {s : State} (h : s.tapHeld = false) (hw : s.board.ir.wf = true) (hc : s.tap.ctl = .captureIr)
    (x b y : Bool) {vs : List Bool} (hlen : (vs ++ [b]).length = s.board.ir.len) :
    ∃ t u, tapRun false (x :: vs) s = .next t ∧ tapRun true [b, y] t = .next u ∧
      u.tap.ctl = .updateIr ∧ u.tap.irOut = vs ++ [b] := by
  obtain ⟨c, hcap⟩ := tapCycle_irPeriod h hc false x
  obtain ⟨t, ht, hheld, htc, hshift, -, -⟩ := tapRun_shiftIr hcap.held hcap.ctl vs
  obtain ⟨e, hleave⟩ := tapCycle_irPeriod hheld htc true b
  obtain ⟨u, hupdate⟩ := tapCycle_irPeriod hleave.held hleave.ctl true y
  refine ⟨t, u, (tapRun_cons hcap.next vs).trans ht, (tapRun_cons hleave.next [y]).trans hupdate.run,
    hupdate.ctl, ?_⟩
  obtain ⟨hcapture, -, -⟩ := s.board.ir.wf_lengths hw
  have hl : s.board.ir.capture.length = vs.length + 1 := by
    rw [hcapture, ← hlen, List.length_append, List.length_singleton]
  rw [hupdate.update rfl, hleave.shift rfl, hshift, hcap.capture rfl, drop_append_bit b (by simp), List.append_assoc,
    List.drop_left' hl]

/-- Leaving Exit1-IR or Exit2-IR for Update-IR puts the shift stage into force (R215). -/
theorem tapRun_updateIr {s : State} {c : TapCtl} (h : s.tapHeld = false) (hs : s.tap.ctl = c)
    (hc : c = .exit1Ir ∨ c = .exit2Ir) (x : Bool) : ∃ t, tapRun true [x] s = .next t ∧ t.tap.ctl = .updateIr ∧
      t.tap.irOut = s.tap.irShift ∧ t.tap.irShift = s.tap.irShift ∧ t.tap.tdo = .z := by
  obtain ⟨t, ht⟩ := tapCycle_irPeriod h hs true x
  rcases hc with rfl | rfl
  · exact ⟨t, ht.run, ht.ctl, ht.update rfl, ht.stay nofun nofun, ht.quiet nofun nofun⟩
  · exact ⟨t, ht.run, ht.ctl, ht.update rfl, ht.stay nofun nofun, ht.quiet nofun nofun⟩

/-- Settles O40: a scan is a capture, periods in Shift-IR, the edge that leaves it, and the update. -/
theorem irScan : Obligations.IrScan := by
  intro s h hw
  refine ⟨fun hc x => ?_, fun hc b => ?_, fun hc x b y vs hlen => tapRun_irScan h hw hc x b y hlen, fun hc x => ?_,
    fun hc vs => ?_, fun hc x => tapRun_updateIr h rfl hc x⟩
  · obtain ⟨t, ht⟩ := tapCycle_irPeriod h hc true x
    exact ⟨t, ht.run, ht.ctl, ht.capture rfl, ht.keep nofun nofun, ht.quiet nofun nofun⟩
  · obtain ⟨t, ht⟩ := tapCycle_irPeriod h hc true b
    exact ⟨t, ht.run, ht.ctl, ht.shift rfl, ht.keep nofun nofun, ht.quiet nofun nofun⟩
  · obtain ⟨t, ht⟩ := tapCycle_irPeriod h hc false x
    refine ⟨t, ht.run, ht.ctl, ht.capture rfl, ht.keep nofun nofun, ?_⟩
    rw [ht.tdo rfl, ht.capture rfl, TapCodes.capture_first hw]
  · obtain ⟨t, ht, -, htc, hrest⟩ := tapRun_shiftIr h hc vs
    exact ⟨t, ht, htc, hrest⟩

end Sys2Proof.Machine
end

section
/-! PROOFS. The ways into Test-Logic-Reset (R143, R210, R211, R224): O44. -/

namespace Sys2Proof.Machine

/-- How many TCK periods with TMS high lead from a controller state to Test-Logic-Reset (R210). -/
def TapCtl.onesToReset : TapCtl → Nat
  | .testLogicReset => 0
  | .selectIr => 1
  | .selectDr => 2
  | .runTestIdle | .updateDr | .updateIr => 3
  | .exit1Dr | .exit2Dr | .exit1Ir | .exit2Ir => 4
  | .captureDr | .shiftDr | .pauseDr | .captureIr | .shiftIr | .pauseIr => 5

theorem TapCtl.onesToReset_after (c : TapCtl) : (c.after true).onesToReset = c.onesToReset - 1 := by
  cases c <;> rfl

theorem TapCtl.onesToReset_le (c : TapCtl) : c.onesToReset ≤ 5 := by
  cases c <;> decide

theorem TapCtl.onesToReset_eq_zero {c : TapCtl} (h : c.onesToReset = 0) : c = .testLogicReset := by
  cases c with
  | testLogicReset => rfl
  | _ => cases h

/-- The test logic as `TapReset` leaves it (R211). -/
structure State.InTapReset (s : State) : Prop where
  ctl : s.tap.ctl = .testLogicReset
  irOut : s.tap.irOut = s.board.ir.idcode
  tdo : s.tap.tdo = .z

theorem State.tapReset_inTapReset (s : State) : s.tapReset.InTapReset := ⟨rfl, rfl, rfl⟩

/-- A TCK period with TMS high brings Test-Logic-Reset one period nearer, and where it ends there the test logic is
reset, whether TRST# or RESET holds the controller or not. -/
theorem tapCycle_ones (s : State) (tdi : Bool) : ∃ t, tapCycle true tdi [] s = .next t ∧ t.board = s.board ∧
    t.tap.ctl.onesToReset ≤ s.tap.ctl.onesToReset - 1 ∧ (t.tap.ctl = .testLogicReset → t.InTapReset) := by
  cases hh : s.tapHeld with
  | true =>
    exact ⟨_, tapCycle_held hh true tdi [], rfl, Nat.zero_le _, fun _ => State.tapReset_inTapReset _⟩
  | false =>
    obtain ⟨t, ht, hctl, -, hout, -, -, -, -, htdo, -, n, hrest⟩ := tapCycle_next hh true tdi []
    have hb : t.board = s.board := by rw [hrest]; rfl
    refine ⟨t, ht, hb, by rw [hctl, TapCtl.onesToReset_after], fun e => ⟨e, ?_, ?_⟩⟩
    · rw [hout, ← hctl, e, hb]
    · rw [htdo, ← hctl, e]

/-- As many periods with TMS high as the controller is away from Test-Logic-Reset, or more, end there (R224). -/
theorem tapRun_ones {s : State} {tdis : List Bool} (hlen : s.tap.ctl.onesToReset ≤ tdis.length)
    (hreset : s.tap.ctl = .testLogicReset → s.InTapReset) :
    ∃ t, tapRun true tdis s = .next t ∧ t.board = s.board ∧ t.InTapReset := by
  induction tdis generalizing s with
  | nil => exact ⟨s, rfl, rfl, hreset (TapCtl.onesToReset_eq_zero (Nat.le_zero.1 hlen))⟩
  | cons tdi rest ih =>
    obtain ⟨u, hu, hub, hnear, hur⟩ := tapCycle_ones s tdi
    obtain ⟨t, ht, htb, htr⟩ := ih (hnear.trans (Nat.sub_le_of_le_add hlen)) hur
    exact ⟨t, (tapRun_cons hu rest).trans ht, htb.trans hub, htr⟩

/-- From any state, five periods: the first makes sure that a reset controller has IDCODE in force, too. -/
theorem tapRun_five_ones (s : State) {tdis : List Bool} (hlen : tdis.length = 5) :
    ∃ t, tapRun true tdis s = .next t ∧ t.board = s.board ∧ t.InTapReset := by
  cases tdis with
  | nil => cases hlen
  | cons tdi rest =>
    obtain ⟨u, hu, hub, hnear, hur⟩ := tapCycle_ones s tdi
    have hfar := s.tap.ctl.onesToReset_le
    have hrest : u.tap.ctl.onesToReset ≤ rest.length := by
      rw [List.length_cons] at hlen
      omega
    obtain ⟨t, ht, htb, htr⟩ := tapRun_ones hrest hur
    exact ⟨t, (tapRun_cons hu rest).trans ht, htb.trans hub, htr⟩

/-- A period while TRST# or RESET is asserted resets the test logic and leaves its shift stages and BSR.out (R211). -/
theorem tapStep_held {s : State} (h : s.tapHeld = true) (tms tdi : Sample) (changing : List PinBit) :
    ∃ t, tapStep tms tdi changing s = .next t ∧ t.tap = s.tapReset.tap := by
  obtain ⟨a, b, n, e⟩ := tapStep_cycle tms tdi changing s
  exact ⟨_, e.trans (tapCycle_held (s := { s with draws := n }) h a b changing), rfl⟩

/-- Settles O44: TRST# is `TapReset` itself, and each period with TMS high is one of at most five to the reset. -/
theorem fiveOnesResetTap : Obligations.FiveOnesResetTap := by
  refine ⟨fun s => rfl, fun s tms tdi changing h => ?_, fun s tdis hlen => ?_, fun s tdi changing => rfl⟩
  · have hheld : s.tapHeld = true := by simpa [State.tapHeld] using h
    exact tapStep_held hheld tms tdi changing
  · obtain ⟨t, ht, hb, hr⟩ := tapRun_five_ones s hlen
    exact ⟨t, ht, hr.ctl, hr.irOut.trans (by rw [hb]), hr.tdo⟩

end Sys2Proof.Machine
end

section
/-! PROOFS. The controller's state table, and when a period changes what stands in force (R210, R224): O39, O48. -/

namespace Sys2Proof.Machine

@[simp] theorem State.tapRise_ctl (s : State) (tms tdi : Bool) (changing : List PinBit) :
    (s.tapRise tms tdi changing).tap.ctl = s.tap.ctl.after tms := rfl

/-- Settles O39: the rising edge ends in the table's state, and the table is a finite check. -/
theorem tapTransitionTable : Obligations.TapTransitionTable :=
  ⟨State.tapRise_ctl, by decide⟩

/-- What a TCK period from `s` to `t` may change of IR.out and BSR.out, by the controller state it ends in (R224). -/
structure OutputsOnlyUpdated (s t : State) : Prop where
  irOut : t.tap.irOut ≠ s.tap.irOut → t.tap.ctl = .updateIr ∨ t.tap.ctl = .testLogicReset
  bsrOut : t.tap.bsrOut ≠ s.tap.bsrOut → t.tap.ctl = .updateDr ∧ s.sel = .bsr

theorem tapCycle_outputsOnlyUpdated {s t : State} {tms tdi : Bool} {changing : List PinBit}
    (h : tapCycle tms tdi changing s = .next t) : OutputsOnlyUpdated s t := by
  cases hh : s.tapHeld with
  | true =>
    cases (tapCycle_held hh tms tdi changing).symm.trans h
    exact ⟨fun _ => .inr rfl, fun e => absurd rfl e⟩
  | false =>
    obtain ⟨u, hu, hctl, -, hir, -, hbsr, -⟩ := tapCycle_next hh tms tdi changing
    cases hu.symm.trans h
    rw [← hctl] at hir hbsr
    constructor
    · intro hne
      split at hir
      · next e => exact .inl e
      · next e => exact .inr e
      · exact absurd hir hne
    · intro hne
      split at hbsr
      · next e es => exact ⟨e, es⟩
      · exact absurd hbsr hne

theorem tapStep_outputsOnlyUpdated {s t : State} {tms tdi : Sample} {changing : List PinBit}
    (h : tapStep tms tdi changing s = .next t) : OutputsOnlyUpdated s t := by
  obtain ⟨a, b, n, e⟩ := tapStep_cycle tms tdi changing s
  obtain ⟨hir, hbsr⟩ := tapCycle_outputsOnlyUpdated (e.symm.trans h)
  exact ⟨hir, hbsr⟩

@[simp] theorem State.latchEdge_tap (s : State) (p : HostPin) (old new : Bool) :
    (s.latchEdge p old new).tap = s.tap := by
  unfold State.latchEdge
  split
  case h_1 | h_6 => rfl
  all_goals split <;> rfl

theorem State.endReset_tap {s t : State} (h : s.endReset = .next t) : t.tap = s.tap := by
  unfold State.endReset at h
  dsimp only at h
  split at h
  · cases h
  · split at h <;> cases h <;> rfl

/-- Driving a pin leaves the test logic alone, or resets it: TRST# and RESET asserted (R211, R385). -/
theorem drivePin_tap {s t : State} {p : HostPin} {new : Bool} (h : drivePin p new s = .next t) :
    t.tap = s.tap ∨ (new = true ∧ (p = .reset ∨ p = .trst)) ∧ t.tap.bsrOut = s.tap.bsrOut := by
  unfold drivePin at h
  cases p
  case reset =>
    dsimp only at h
    split at h
    · next hrise =>
      cases h
      exact .inr ⟨⟨(Bool.and_eq_true_iff.1 hrise).2, .inl rfl⟩, rfl⟩
    · split at h
      · have htap := State.endReset_tap h
        exact .inl htap
      · cases h
        exact .inl rfl
  case trst =>
    dsimp only at h
    split at h
    · next hnew =>
      cases h
      exact .inr ⟨⟨hnew, .inr rfl⟩, rfl⟩
    · cases h
      exact .inl rfl
  all_goals
    cases h
    exact .inl (State.latchEdge_tap _ _ _ _)

theorem coreStep_tap {s t : State} (h : coreStep s = .next t) : t.tap = s.tap :=
  (coreLeavesTapAlone s t h).1

/-- A move of the schedule leaves the test logic alone, resets it, or is a TCK period. -/
theorem perform_tap {m : Move} {s t : State} (h : perform m s = .next t) :
    t.tap = s.tap ∨ ((m = .drive .reset true ∨ m = .drive .trst true) ∧ t.tap.bsrOut = s.tap.bsrOut) ∨
      ((∃ tms tdi changing, m = .tck tms tdi changing) ∧ OutputsOnlyUpdated s t) := by
  cases m
  case core => exact .inl (coreStep_tap h)
  case tck tms tdi changing => exact .inr (.inr ⟨⟨tms, tdi, changing, rfl⟩, tapStep_outputsOnlyUpdated h⟩)
  case drive p new =>
    obtain e | ⟨⟨rfl, rfl | rfl⟩, hout⟩ := drivePin_tap h
    · exact .inl e
    · exact .inr (.inl ⟨.inl rfl, hout⟩)
    · exact .inr (.inl ⟨.inr rfl, hout⟩)
  all_goals
    cases h
    exact .inl rfl

/-- Settles O48: the agents leave the test logic alone but for TCK periods and the two pins that reset it. -/
theorem tapOutputsChangeOnlyInUpdate : Obligations.TapOutputsChangeOnlyInUpdate := by
  intro s t h
  unfold step advance at h
  cases hm : s.schedule with
  | nil =>
    rw [hm] at h
    have htap := coreStep_tap h
    exact ⟨fun hne => absurd (congrArg Tap.irOut htap) hne, fun hne => absurd (congrArg Tap.bsrOut htap) hne⟩
  | cons m rest =>
    rw [hm] at h
    obtain htap | ⟨hreset, hout⟩ | ⟨⟨tms, tdi, changing, rfl⟩, hir, hbsr⟩ := perform_tap h
    · exact ⟨fun hne => absurd (congrArg Tap.irOut htap) hne, fun hne => absurd (congrArg Tap.bsrOut htap) hne⟩
    · refine ⟨fun _ => .inr ?_, fun hne => absurd hout hne⟩
      obtain rfl | rfl := hreset
      · exact ⟨.reset, rest, rfl, .inl rfl⟩
      · exact ⟨.trst, rest, rfl, .inr rfl⟩
    · exact ⟨fun hne => .inl ⟨tms, tdi, changing, rest, rfl, hir hne⟩,
        fun hne => ⟨tms, tdi, changing, rest, rfl, hbsr hne⟩⟩

end Sys2Proof.Machine
end

section
/-! PROOFS. What the boundary-scan register captures, and what Update-DR does with it (R217, R219): O45. -/

namespace Sys2Proof.Machine

theorem Level.bit_levelOf (b : Bool) : (levelOf b).bit = some b := by cases b <;> rfl

/-- A pin with a level, where it is captured at all, gives that level (R217, R241). -/
theorem State.cellCapture_level {s : State} {changing : List PinBit} {p : PinBit} {b : Bool} (hc : p ∉ changing)
    (hx : s.tap.irOut = s.board.ir.extest → p.isInput = true) (hl : s.pinLevel p = levelOf b) :
    s.cellCapture changing (.data p) = some b := by
  have hx' : ¬ (s.tap.irOut = s.board.ir.extest && !p.isInput) = true := by simpa using hx
  rw [State.cellCapture, if_neg (by simpa using hc), if_neg hx', hl, Level.bit_levelOf]

/-- A cell whose capture the rules leave open: a control cell, or that of a pin that is changing, floated, or under
EXTEST an output alone (R217, R225, R241, R242). -/
def State.CapturesFree (s : State) (changing : List PinBit) (c : BsrCell) : Prop :=
  (∃ gov on, c = .control gov on) ∨ (∃ p, c = .data p ∧ (p ∈ changing ∨ s.pinLevel p = .z ∨
    (s.tap.irOut = s.board.ir.extest ∧ p.isInput = false)))

theorem State.cellCapture_free {s : State} {changing : List PinBit} {c : BsrCell} (h : s.CapturesFree changing c) :
    s.cellCapture changing c = none := by
  obtain ⟨gov, on, rfl⟩ | ⟨p, rfl, h⟩ := h
  · rfl
  rw [State.cellCapture]
  split_ifs with hc hx
  · rfl
  · rfl
  obtain h | h | ⟨he, hi⟩ := h
  · exact absurd (List.contains_iff_mem.2 h) hc
  · rw [h]
    rfl
  · exact absurd (by simp [he, hi]) hx

/-- A period from Capture-DR with the boundary-scan register selected loads the chain cell by cell (R217). -/
theorem tapCycle_captureBsr {s : State} (h : s.tapHeld = false) (hc : s.tap.ctl = .captureDr) (hs : s.sel = .bsr)
    (tms x : Bool) (changing : List PinBit) : ∃ t, tapCycle tms x changing s = .next t ∧
      t.tap.ctl = (if tms then .exit1Dr else .shiftDr) ∧ t.tap.bsrOut = s.tap.bsrOut ∧
      t.tap.bsrShift = captureCells (s.board.bsrMap.map (s.cellCapture changing)) s.draws := by
  obtain ⟨t, ht, hctl, -, -, hshift, hout, -⟩ := tapCycle_next h tms x changing
  rw [hc] at hctl hshift hout
  rw [hs] at hshift hout
  refine ⟨t, ht, hctl, ?_, hshift⟩
  cases tms <;> exact hout

theorem captureCells_map_getElem? {cells : List BsrCell} {k : Nat} {c : BsrCell} (h : cells[k]? = some c)
    (f : BsrCell → Option Bool) (n : Nat) :
    (captureCells (cells.map f) n)[k]? = some ((f c).getD (drawBitAt (n + k))) := by
  rw [captureCells_getElem?, List.getElem?_map, h]
  rfl

/-- A period with TMS high from Exit1-DR or Exit2-DR is the update (R219). -/
theorem tapCycle_updateDr {s : State} (h : s.tapHeld = false) (hc : s.tap.ctl = .exit1Dr ∨ s.tap.ctl = .exit2Dr)
    (x : Bool) (changing : List PinBit) : ∃ t, tapCycle true x changing s = .next t ∧
      t.tap.ctl = .updateDr ∧ t.tap.bsrShift = s.tap.bsrShift ∧
      t.tap.bsrOut = if s.sel = .bsr then s.tap.bsrShift else s.tap.bsrOut := by
  obtain ⟨t, ht, hctl, -, -, hshift, hout, -⟩ := tapCycle_next h true x changing
  have hafter : s.tap.ctl.after true = .updateDr := by
    obtain e | e := hc <;> rw [e] <;> rfl
  rw [hafter] at hctl hout
  refine ⟨t, ht, hctl, ?_, ?_⟩
  · obtain e | e := hc <;> rw [hshift, e]
  · rw [hout]
    cases s.sel <;> rfl

/-- Settles O45: the captured chain cell by cell, and the update. -/
theorem boundaryScanCapture : Obligations.BoundaryScanCapture := by
  refine ⟨fun s tms x changing hh hc hs => ?_, fun s x changing hh hc => tapCycle_updateDr hh hc x changing⟩
  obtain ⟨t, ht, hctl, hout, hshift⟩ := tapCycle_captureBsr hh hc hs tms x changing
  refine ⟨t, ht, hctl, hout, ?_, fun k p b hk hp hx hl => ?_, fun k c hk hfree => ?_⟩
  · rw [hshift, captureCells_length, List.length_map]
  · rw [hshift, captureCells_map_getElem? hk, State.cellCapture_level hp hx hl]
    rfl
  · rw [hshift, captureCells_map_getElem? hk, State.cellCapture_free hfree]
    rfl

end Sys2Proof.Machine
end

section
/-! PROOFS. Scans of the identification and the bypass register (R216 to R218, R243 to R246): O47. -/

namespace Sys2Proof.Machine

theorem setBit_getLsbD {w i k : Nat} (x : BitVec w) (b : Bool) (hi : i < w) (hk : k < w) :
    (setBit x i b).getLsbD k = if k = i then b else x.getLsbD k := by
  have hbit : (1#w <<< i).getLsbD k = decide (k = i) := by
    rw [← BitVec.twoPow_eq, BitVec.getLsbD_twoPow]
    simp [hi, eq_comm]
  rw [setBit, BitVec.getLsbD_or, BitVec.getLsbD_and, BitVec.getLsbD_not, hbit]
  cases b with
  | false => by_cases he : k = i <;> simp [he, hk]
  | true =>
    rw [if_pos rfl, hbit]
    by_cases he : k = i <;> simp [he, hk]

/-- Bit `k` of a shifted register: what stood above it, or the bit that came in at the top (R218). -/
theorem shiftVec_getLsbD {w k : Nat} (v : BitVec w) (tdi : Bool) (h : k < w) :
    (shiftVec v tdi).getLsbD k = if k = w - 1 then tdi else v.getLsbD (k + 1) := by
  rw [shiftVec, setBit_getLsbD _ _ (by omega) h, BitVec.getLsbD_ushiftRight, Nat.add_comm 1 k]

/-- What a TCK period from the controller state `c`, Capture-DR or Shift-DR, does to the identification and the bypass
register while `r` is selected. -/
structure DrPeriod (r : Tdr) (c : TapCtl) (tms tdi : Bool) (s t : State) : Prop where
  next : tapCycle tms tdi [] s = .next t
  held : t.tapHeld = false
  ctl : t.tap.ctl = c.after tms
  sel : t.sel = r
  captureDir : r = .dir → c = .captureDr → t.tap.dir = s.board.dirValue
  shiftDir : r = .dir → c = .shiftDr → t.tap.dir = shiftVec s.tap.dir tdi
  captureBr : r = .br → c = .captureDr → t.tap.br = false
  shiftBr : r = .br → c = .shiftDr → t.tap.br = tdi
  tdo : c.after tms = .shiftDr → t.tap.tdo = t.drBit

theorem tapCycle_drPeriod {s : State} {r : Tdr} {c : TapCtl} (h : s.tapHeld = false) (hs : s.sel = r)
    (hc : s.tap.ctl = c) (hdr : c = .captureDr ∨ c = .shiftDr) (tms tdi : Bool) :
    ∃ t, DrPeriod r c tms tdi s t := by
  obtain ⟨t, ht, hctl, -, hir, -, -, hdir, hbr, htdo, hheld, n, hrest⟩ := tapCycle_next h tms tdi []
  rw [hc] at hctl hir hdir hbr htdo
  rw [hs] at hdir hbr
  have hirOut : t.tap.irOut = s.tap.irOut := by
    obtain rfl | rfl := hdr <;> cases tms <;> exact hir
  have hsel : t.sel = r := by
    have hb : t.board = s.board := by rw [hrest]; rfl
    rw [State.sel, hb, hirOut]
    exact hs
  refine ⟨t, ht, hheld, hctl, hsel, ?_, ?_, ?_, ?_, fun e => ?_⟩
  · rintro rfl rfl
    exact hdir
  · rintro rfl rfl
    exact hdir
  · rintro rfl rfl
    exact hbr
  · rintro rfl rfl
    exact hbr
  · rw [htdo, e]

theorem DrPeriod.run {r : Tdr} {c : TapCtl} {tms tdi : Bool} {s t : State} (h : DrPeriod r c tms tdi s t) :
    tapRun tms [tdi] s = .next t := tapRun_cons h.next []

theorem State.drBit_dir {s : State} (h : s.sel = .dir) : s.drBit = levelOf (s.tap.dir.getLsbD 0) := by
  rw [State.drBit, h]

theorem State.drBit_br {s : State} (h : s.sel = .br) : s.drBit = levelOf s.tap.br := by
  rw [State.drBit, h]

/-- Periods in Shift-DR bring the bits of DIR to TDO one after another (R216, R218). -/
theorem tapRun_shiftDir {s : State} {vs : List Bool} (h : s.tapHeld = false) (hs : s.sel = .dir)
    (hc : s.tap.ctl = .shiftDr) (ho : s.tap.tdo = s.drBit) (hk : vs.length < 32) :
    ∃ t, tapRun false vs s = .next t ∧ t.tap.ctl = .shiftDr ∧
      t.tap.tdo = levelOf (s.tap.dir.getLsbD vs.length) := by
  induction vs generalizing s with
  | nil => exact ⟨s, rfl, hc, by rw [ho, State.drBit_dir hs, List.length_nil]⟩
  | cons v vs ih =>
    rw [List.length_cons] at hk ⊢
    obtain ⟨u, hu⟩ := tapCycle_drPeriod h hs hc (.inr rfl) false v
    obtain ⟨t, ht, htc, htdo⟩ := ih hu.held hu.sel hu.ctl (hu.tdo rfl) (by omega)
    refine ⟨t, (tapRun_cons hu.next vs).trans ht, htc, ?_⟩
    rw [htdo, hu.shiftDir rfl rfl, shiftVec_getLsbD _ _ (by omega), if_neg (by omega)]

/-- Periods in Shift-DR bring each bit of TDI through the bypass register to TDO (R216, R218). -/
theorem tapRun_shiftBr {s : State} (h : s.tapHeld = false) (hs : s.sel = .br) (hc : s.tap.ctl = .shiftDr)
    (vs : List Bool) (b : Bool) :
    ∃ t, tapRun false (vs ++ [b]) s = .next t ∧ t.tap.ctl = .shiftDr ∧ t.tap.tdo = levelOf b := by
  induction vs generalizing s with
  | nil =>
    obtain ⟨t, ht⟩ := tapCycle_drPeriod h hs hc (.inr rfl) false b
    exact ⟨t, ht.run, ht.ctl, by rw [ht.tdo rfl, State.drBit_br ht.sel, ht.shiftBr rfl rfl]⟩
  | cons v vs ih =>
    obtain ⟨u, hu⟩ := tapCycle_drPeriod h hs hc (.inr rfl) false v
    obtain ⟨t, ht, hrest⟩ := ih hu.held hu.sel hu.ctl
    exact ⟨t, (tapRun_cons hu.next (vs ++ [b])).trans ht, hrest⟩

/-- IDCODE selects the identification register (R243). -/
theorem State.sel_idcode {s : State} (hw : s.board.ir.wf = true) (h : s.tap.irOut = s.board.ir.idcode) :
    s.sel = .dir := by
  obtain ⟨-, -, hi, -⟩ := selOf_codes hw
  rw [State.sel, h, hi]

/-- BYPASS, HIGHZ and a code that is none of the five select the bypass register (R244 to R246). -/
theorem State.sel_br {s : State} (hw : s.board.ir.wf = true) (h : s.tap.irOut = s.board.ir.bypass ∨
    s.tap.irOut = s.board.ir.highz ∨ decodeIr s.board.ir s.tap.irOut = none) : s.sel = .br := by
  obtain ⟨-, -, -, hz, hb⟩ := selOf_codes hw
  obtain h | h | h := h
  · rw [State.sel, h, hb]
  · rw [State.sel, h, hz]
  · obtain ⟨he, hs, hi, -, -⟩ := decodeIr_none h
    exact selOf_of_ne he hs hi

/-- Settles O47: what the capture loads comes out first, then what the periods in Shift-DR push through. -/
theorem scanReadsIdOrDelay : Obligations.ScanReadsIdOrDelay := by
  refine ⟨fun s x vs hh hw hc ho hlen => ?_, fun s hw h => State.sel_br hw h, fun s x b vs hh hc hs => ?_,
    fun s tms x hh hw => ⟨fun ho => ?_, fun hs => ?_⟩⟩
  · obtain ⟨u, hu⟩ := tapCycle_drPeriod hh (State.sel_idcode hw ho) hc (.inl rfl) false x
    obtain ⟨t, ht, htc, htdo⟩ := tapRun_shiftDir hu.held hu.sel hu.ctl (hu.tdo rfl) hlen
    rw [hu.captureDir rfl rfl] at htdo
    exact ⟨t, (tapRun_cons hu.next vs).trans ht, htc, htdo⟩
  · obtain ⟨u, hu⟩ := tapCycle_drPeriod hh hs hc (.inl rfl) false x
    obtain ⟨t, ht, hrest⟩ := tapRun_shiftBr hu.held hu.sel hu.ctl vs b
    refine ⟨⟨u, hu.run, ?_⟩, t, (tapRun_cons hu.next (vs ++ [b])).trans ht, hrest⟩
    rw [hu.tdo rfl, State.drBit_br hu.sel, hu.captureBr rfl rfl]
    rfl
  · have hs := State.sel_idcode hw ho
    refine ⟨fun hc => ?_, fun hc => ?_⟩
    · obtain ⟨t, ht⟩ := tapCycle_drPeriod hh hs hc (.inl rfl) tms x
      exact ⟨t, ht.run, ht.captureDir rfl rfl⟩
    · obtain ⟨t, ht⟩ := tapCycle_drPeriod hh hs hc (.inr rfl) tms x
      exact ⟨t, ht.run, fun k hk => by rw [ht.shiftDir rfl rfl, shiftVec_getLsbD _ _ hk]⟩
  · refine ⟨fun hc => ?_, fun hc => ?_⟩
    · obtain ⟨t, ht⟩ := tapCycle_drPeriod hh hs hc (.inl rfl) tms x
      exact ⟨t, ht.run, ht.captureBr rfl rfl⟩
    · obtain ⟨t, ht⟩ := tapCycle_drPeriod hh hs hc (.inr rfl) tms x
      exact ⟨t, ht.run, ht.shiftBr rfl rfl⟩

end Sys2Proof.Machine
end

section
/-! PROOFS. The pins under HIGHZ and EXTEST (R241, R244): O42. -/

namespace Sys2Proof.Machine

/-! ### The cells that float and drive a pin (R241) -/

/-- Cell `j` of a chain is a control cell that governs `p`, and its value floats the pins it governs. -/
def FloatsAt (cells : List BsrCell) (vs : List Bool) (p : PinBit) (j : Nat) : Prop :=
  ∃ gov on v, cells[j]? = some (.control gov on) ∧ p ∈ gov ∧ vs[j]? = some v ∧ v ≠ on

/-- A control cell in front floats the pins it governs while it does not hold the value that drives them. -/
theorem floatsAt_control_zero {gov : List PinBit} {on v : Bool} {cells : List BsrCell} {vs : List Bool} {p : PinBit} :
    FloatsAt (.control gov on :: cells) (v :: vs) p 0 ↔ p ∈ gov ∧ v ≠ on := by
  constructor
  · rintro ⟨gov', on', v', hc, hg, hv, hne⟩
    cases hc
    cases hv
    exact ⟨hg, hne⟩
  · rintro ⟨hg, hne⟩
    exact ⟨gov, on, v, rfl, hg, rfl, hne⟩

/-- Any one control cell is enough to float a pin (log 31). -/
theorem floatedByCell_iff (cells : List BsrCell) (vs : List Bool) (p : PinBit) :
    floatedByCell cells vs p = true ↔ ∃ j, FloatsAt cells vs p j := by
  induction cells generalizing vs with
  | nil => simp [floatedByCell, FloatsAt]
  | cons c cells ih =>
    cases vs with
    | nil => cases c <;> simp [floatedByCell, FloatsAt]
    | cons v vs =>
      have htail : (∃ j, FloatsAt (c :: cells) (v :: vs) p (j + 1)) ↔ floatedByCell cells vs p = true :=
        (ih vs).symm
      rw [← Nat.or_exists_add_one, htail]
      cases c with
      | data q => simp [floatedByCell, FloatsAt]
      | control gov on => simp [floatedByCell, floatsAt_control_zero]

/-- The first data cell of a pin gives its value (log 31). -/
theorem dataCell_first {cells : List BsrCell} {vs : List Bool} {p : PinBit} {k : Nat} {v : Bool}
    (hk : cells[k]? = some (.data p)) (hv : vs[k]? = some v) (hfirst : ∀ j, j < k → cells[j]? ≠ some (.data p)) :
    dataCell cells vs p = some v := by
  induction cells generalizing vs k with
  | nil => cases hk
  | cons c cells ih =>
    cases vs with
    | nil => cases hv
    | cons w vs =>
      cases k with
      | zero =>
        cases hk
        cases hv
        exact if_pos rfl
      | succ k =>
        have htail : dataCell cells vs p = some v := ih hk hv fun j hj => hfirst (j + 1) (Nat.succ_lt_succ hj)
        cases c with
        | control gov on => exact htail
        | data q =>
          have hq : q ≠ p := fun e => hfirst 0 (Nat.succ_pos k) (by rw [e]; rfl)
          rw [dataCell, if_neg hq, htail]

/-! ### The level of a pin -/

theorem TapCodes.highz_ne_extest {c : TapCodes} (h : c.wf = true) : c.highz ≠ c.extest := by
  have hd := c.wf_distinct h
  simp only [TapCodes.all, List.nodup_cons, List.mem_cons, not_or] at hd
  obtain ⟨⟨-, -, hez, -⟩, -⟩ := hd
  exact Ne.symm hez

/-- HIGHZ in force floats whatever the part could drive (R244). -/
theorem State.partLevel_highz {s : State} (hw : s.board.ir.wf = true) (h : s.tap.irOut = s.board.ir.highz)
    (p : PinBit) : s.partLevel p = .z := by
  rw [State.partLevel, h, if_neg (TapCodes.highz_ne_extest hw), if_pos rfl]

/-- An output or bidirectional pin has the level the part and the platform make (R20). -/
theorem State.pinLevel_join (s : State) {p : PinBit} (h : ∀ i, p ≠ .inp i) :
    s.pinLevel p = (s.partLevel p).join (s.pins.platformLevel p) := by
  cases p with
  | inp i => exact absurd rfl (h i)
  | _ => rfl

/-- A pin the part floats is the platform's. -/
theorem State.pinLevel_floated {s : State} {p : PinBit} (h : ∀ i, p ≠ .inp i) (hz : s.partLevel p = .z) :
    s.pinLevel p = s.pins.platformLevel p := by
  rw [s.pinLevel_join h, hz]
  rfl

/-- Under EXTEST a control cell of BSR.out floats the pins it governs (R241). -/
theorem State.partLevel_extest_floated {s : State} {p : PinBit} {j : Nat} (h : s.tap.irOut = s.board.ir.extest)
    (hf : FloatsAt s.board.bsrMap s.tap.bsrOut p j) : s.partLevel p = .z := by
  rw [State.partLevel, if_pos h, if_pos ((floatedByCell_iff _ _ _).2 ⟨j, hf⟩)]

/-- Under EXTEST a data cell of BSR.out drives a pin that no control cell floats (R241). -/
theorem State.partLevel_extest_driven {s : State} {p : PinBit} {v : Bool} (h : s.tap.irOut = s.board.ir.extest)
    (hf : ∀ j, ¬ FloatsAt s.board.bsrMap s.tap.bsrOut p j)
    (hd : dataCell s.board.bsrMap s.tap.bsrOut p = some v) : s.partLevel p = levelOf v := by
  have hnot : ¬ floatedByCell s.board.bsrMap s.tap.bsrOut p = true :=
    fun e => not_exists.2 hf ((floatedByCell_iff _ _ _).1 e)
  rw [State.partLevel, if_pos h, if_neg hnot, hd]

/-- Settles O42: HIGHZ floats every pin, and under EXTEST the cells of BSR.out say which pins float and what drives
the others. -/
theorem pinsUnderTest : Obligations.PinsUnderTest := by
  refine ⟨fun s p hw hz hp => ?_, fun s p hw hz => ?_, fun s p he _ _ => ⟨?_, ?_⟩⟩
  · have hpart := State.partLevel_highz hw hz p
    exact ⟨hpart, State.pinLevel_floated hp hpart⟩
  · exact State.pinLevel_floated (fun i => nofun) (State.partLevel_highz hw hz _)
  · intro j gov on v hc hg hv hne
    exact State.partLevel_extest_floated he ⟨gov, on, v, hc, hg, hv, hne⟩
  · intro k v hk hv hfirst hon
    refine State.partLevel_extest_driven he (fun j => ?_) (dataCell_first hk hv hfirst)
    rintro ⟨gov, on, w, hc, hg, hw, hne⟩
    exact hne (Option.some.inj (hw.symm.trans (hon j gov on hc hg)))

end Sys2Proof.Machine
end

section
/-! PROOFS. The core has no step while, or after, the test logic has its pins (R240, D19): O43. -/

namespace Sys2Proof.Machine

/-! ### What asks for a RESET stays (log 21) -/

theorem tapCycle_coreNeedsReset {s t : State} {tms tdi : Bool} {changing : List PinBit}
    (hs : s.tap.coreNeedsReset = true) (h : tapCycle tms tdi changing s = .next t) : t.tap.coreNeedsReset = true := by
  cases hh : s.tapHeld with
  | true =>
    cases (tapCycle_held hh tms tdi changing).symm.trans h
    exact hs
  | false =>
    obtain ⟨a, b, c, d, n, hr⟩ := (s.setTestPins tms tdi).tapRise_frame tms tdi changing
    obtain ⟨loaded, needs, hf, hkeep⟩ := tapFall_next ((s.setTestPins tms tdi).tapRise tms tdi changing)
    rw [tapCycle, if_neg (by simp [hh]), hf] at h
    cases h
    exact hkeep (by rw [hr]; exact hs)

theorem tapStep_coreNeedsReset {s t : State} {tms tdi : Sample} {changing : List PinBit}
    (hs : s.tap.coreNeedsReset = true) (h : tapStep tms tdi changing s = .next t) : t.tap.coreNeedsReset = true := by
  obtain ⟨a, b, n, e⟩ := tapStep_cycle tms tdi changing s
  exact tapCycle_coreNeedsReset (s := { s with draws := n }) hs (e.symm.trans h)

/-- Of the moves that touch the test logic, only the assertion of RESET clears the request for it. -/
theorem perform_coreNeedsReset {m : Move} {s t : State} (hm : m ≠ .drive .reset true)
    (hs : s.tap.coreNeedsReset = true) (h : perform m s = .next t) : t.tap.coreNeedsReset = true := by
  obtain e | ⟨rfl | rfl, -⟩ | ⟨⟨tms, tdi, changing, rfl⟩, -⟩ := perform_tap h
  · rw [e]
    exact hs
  · exact absurd rfl hm
  · cases h
    exact hs
  · exact tapStep_coreNeedsReset hs h

theorem step_coreNeedsReset {s t : State} (hm : ∀ rest, s.schedule ≠ .drive .reset true :: rest)
    (hs : s.tap.coreNeedsReset = true) (h : step s = .next t) : t.tap.coreNeedsReset = true := by
  unfold step advance at h
  cases hsch : s.schedule with
  | nil =>
    rw [hsch] at h
    rw [coreStep_tap h]
    exact hs
  | cons m rest =>
    rw [hsch] at h
    exact perform_coreNeedsReset (s := { s with schedule := rest }) (fun e => hm rest (by rw [hsch, e])) hs h

/-! ### The core is refused (R240) -/

theorem coreStep_pinsTaken {s : State} (hr : s.pins.inp.reset = false) (h : s.pinsTaken = true) :
    coreStep s = .refused .pinsOverridden := by
  rw [coreStep, if_neg (by simp [hr]), if_pos h]

theorem coreStep_needsReset {s : State} (hr : s.pins.inp.reset = false) (hp : ¬ s.pinsTaken = true)
    (h : s.tap.coreNeedsReset = true) : coreStep s = .refused .resetRequired := by
  rw [coreStep, if_neg (by simp [hr]), if_neg hp, if_pos h]

/-- Settles O43: the request for a RESET outlives every other step, and the core looks at it, and at its pins,
before any event or instruction. -/
theorem coreRefusedWithoutPins : Obligations.CoreRefusedWithoutPins := by
  refine ⟨fun s t h hs hm => step_coreNeedsReset hm hs h, fun s t hr h => ?_, fun s hr => ⟨fun h => ?_, ?_⟩⟩
  · cases (perform_reset hr).symm.trans h
    exact ⟨rfl, rfl⟩
  · exact coreStep_pinsTaken hr (s.pinsTaken_iff.2 h)
  · intro he hz hs
    exact coreStep_needsReset hr (fun h => (s.pinsTaken_iff.1 h).elim he hz) hs

end Sys2Proof.Machine
end

section
/-! PROOFS. The flag functions in arithmetic, and the results of addition, logic, INC, DEC, NOT and NEG: O9 to O12. -/

namespace Sys2Proof.Machine

/-! ### Carries (R263) -/

/-- The carry into bit 4 of a sum is what bit 4 of the sum and of its operands differ by. -/
theorem halfCarry_bit (a b : Word) (c : Bool) : (a ^^^ b ^^^ (a + b + BitVec.ofNat 16 c.toNat)).getLsbD 4 =
    decide (16 ≤ a.toNat % 16 + b.toNat % 16 + c.toNat) := by
  have hc : BitVec.ofNat 16 c.toNat = BitVec.setWidth 16 (BitVec.ofBool c) := by cases c <;> rfl
  rw [BitVec.getLsbD_xor, BitVec.getLsbD_xor, hc, BitVec.getLsbD_add_add_bool (by decide)]
  change _ = BitVec.carry 4 a b c
  generalize BitVec.carry 4 a b c = k
  cases a.getLsbD 4 <;> cases b.getLsbD 4 <;> cases k <;> rfl

/-- Bit 15 is the sign. -/
theorem sign_bit (x : Word) : x.getLsbD 15 = decide (x.toInt < 0) := by
  rw [← BitVec.msb_eq_getLsbD_last x, BitVec.msb_eq_toInt]

theorem word_toInt (x : Word) : x.toInt = if x.toNat < 2 ^ 15 then (x.toNat : Int) else x.toNat - 2 ^ 16 := by
  rw [BitVec.toInt_eq_toNat_cond]
  split <;> split <;> omega

theorem toNat_add_carry (a b : Word) (c : Bool) :
    (a + b + BitVec.ofNat 16 c.toNat).toNat = (a.toNat + b.toNat + c.toNat) % 2 ^ 16 := by
  simp

/-- A sum whose sign differs from that of both operands is out of range. -/
theorem overflow_bit (a b : Word) (c : Bool) :
    ((a ^^^ (a + b + BitVec.ofNat 16 c.toNat)) &&& (b ^^^ (a + b + BitVec.ofNat 16 c.toNat))).getLsbD 15 =
      decide (a.toInt + b.toInt + c.toNat < -2 ^ 15 ∨ 2 ^ 15 ≤ a.toInt + b.toInt + c.toNat) := by
  have hs := toNat_add_carry a b c
  have hc : c.toNat ≤ 1 := c.toNat_le
  generalize a + b + BitVec.ofNat 16 c.toNat = r at hs
  have ha := word_toInt a
  have hb := word_toInt b
  have hr := word_toInt r
  rw [BitVec.getLsbD_and, BitVec.getLsbD_xor, BitVec.getLsbD_xor, sign_bit, sign_bit, sign_bit]
  rw [Bool.eq_iff_iff]
  simp only [Bool.and_eq_true, bne_iff_ne, ne_eq, decide_eq_decide, decide_eq_true_eq]
  omega

theorem addFlags_result (a b : Word) (c : Bool) : (addFlags a b c).result = a + b + BitVec.ofNat 16 c.toNat :=
  BitVec.eq_of_toNat_eq (toNat_add_carry a b c).symm

theorem subFlags_result (a b : Word) (c : Bool) : (subFlags a b c).result = a - b - BitVec.ofNat 16 c.toNat := by
  change BitVec.ofInt 16 ((a.toNat : Int) - b.toNat - c.toNat) = _
  have hc : c.toNat ≤ 1 := c.toNat_le
  apply BitVec.eq_of_toNat_eq
  rw [BitVec.toNat_ofInt, BitVec.toNat_sub, BitVec.toNat_sub, BitVec.toNat_ofNat]
  omega

/-- A difference is the word that gives the first operand when the second and the borrow are added again. -/
theorem subFlags_add (a b : Word) (c : Bool) : (subFlags a b c).result + b + BitVec.ofNat 16 c.toNat = a := by
  rw [subFlags_result]
  ring

theorem toNat_sub_carry (a b : Word) (c : Bool) :
    a.toNat = ((subFlags a b c).result.toNat + b.toNat + c.toNat) % 2 ^ 16 := by
  rw [← toNat_add_carry, subFlags_add]

theorem subFlags_af (a b : Word) (c : Bool) :
    (subFlags a b c).af = decide (a.toNat % 16 < b.toNat % 16 + c.toNat) := by
  have hadd := subFlags_add a b c
  have hmod := toNat_sub_carry a b c
  change (a ^^^ b ^^^ (subFlags a b c).result).getLsbD 4 = _
  generalize (subFlags a b c).result = r at hadd hmod
  have hbit := halfCarry_bit r b c
  rw [hadd] at hbit
  rw [BitVec.xor_comm _ r, BitVec.xor_comm a b, ← BitVec.xor_assoc, hbit, decide_eq_decide]
  have hc : c.toNat ≤ 1 := c.toNat_le
  omega

theorem subFlags_ovf (a b : Word) (c : Bool) : (subFlags a b c).ovf =
    decide (a.toInt - b.toInt - c.toNat < -2 ^ 15 ∨ 2 ^ 15 ≤ a.toInt - b.toInt - c.toNat) := by
  have hadd := subFlags_add a b c
  have hmod := toNat_sub_carry a b c
  change ((a ^^^ b) &&& (a ^^^ (subFlags a b c).result)).getLsbD 15 = _
  generalize (subFlags a b c).result = r at hadd hmod
  have hbit := overflow_bit r b c
  rw [hadd] at hbit
  rw [BitVec.and_comm, BitVec.xor_comm a r, BitVec.xor_comm a b, hbit, decide_eq_decide]
  have ha := word_toInt a
  have hb := word_toInt b
  have hr := word_toInt r
  have hc : c.toNat ≤ 1 := c.toNat_le
  omega

/-- Each bit set changes the parity. -/
theorem even_countP_cons {α : Type} (p : α → Bool) (x : α) (l : List α) :
    decide ((x :: l).countP p % 2 = 0) = (p x ^^ decide (l.countP p % 2 = 0)) := by
  rw [List.countP_cons]
  cases p x with
  | false => simp
  | true =>
    rw [if_pos rfl, Bool.true_xor, ← decide_not, decide_eq_decide]
    omega

theorem parity8_eq (v : Word) :
    parity8 v = decide (((List.range 8).countP fun k => v.getLsbD k) % 2 = 0) := by
  have hr : List.range 8 = [0, 1, 2, 3, 4, 5, 6, 7] := rfl
  rw [hr]
  simp only [even_countP_cons, List.countP_nil, parity8]
  simp

theorem addFlags_af (a b : Word) (c : Bool) :
    (addFlags a b c).af = decide (16 ≤ a.toNat % 16 + b.toNat % 16 + c.toNat) := by
  change (a ^^^ b ^^^ (addFlags a b c).result).getLsbD 4 = _
  rw [addFlags_result, halfCarry_bit]

theorem addFlags_ovf (a b : Word) (c : Bool) : (addFlags a b c).ovf =
    decide (a.toInt + b.toInt + c.toNat < -2 ^ 15 ∨ 2 ^ 15 ≤ a.toInt + b.toInt + c.toNat) := by
  change ((a ^^^ (addFlags a b c).result) &&& (b ^^^ (addFlags a b c).result)).getLsbD 15 = _
  rw [addFlags_result, overflow_bit]

/-- Settles O10: by the carry into bit 4, by the signs, and for differences by the sum that undoes them. -/
theorem arithmeticFlagsMeaning : Obligations.ArithmeticFlagsMeaning := by
  intro a b c
  refine ⟨addFlags_result a b c, rfl, addFlags_af a b c, addFlags_ovf a b c, subFlags_result a b c, ?_,
    subFlags_af a b c, subFlags_ovf a b c, rfl, rfl, rfl, fun x hx => ?_⟩
  · change decide ((a.toNat : Int) - b.toNat - c.toNat < 0) = _
    rw [decide_eq_decide]
    omega
  · have hx : x = withSzp x.result x.cf x.af x.ovf := by
      simp only [List.mem_cons, List.not_mem_nil, or_false] at hx
      obtain rfl | rfl | rfl := hx <;> rfl
    rw [hx]
    exact ⟨rfl, rfl, parity8_eq x.result⟩

/-! ### The instructions -/

/-- A body that ends by writing the arithmetic flags, `n` free values taken. -/
theorem straight_arith {i : Instr} {body : M Unit} {s t : State} {x : Arith} {n : Nat} (hf : s.mayFinish i = true)
    (hb : body s = .ok ((), (t.setArith x).drew n)) (ht : t.flag .tf = s.flag .tf) (he : t.eip = s.eip) :
    straight i body s = .next (((t.setArith x).drew n).atEnd i) := straight_ok hf hb ht (by simpa using he)

/-- Settles O9: by the body that all forty-two encodings share. -/
theorem twoOperandResult : Obligations.TwoOperandResult := by
  intro i o dst src a b s h ha hb ht hf
  obtain ⟨x, hx, hbody⟩ := twoOperandBody_ok ha hb ht
  have htf : (if o.writes then s.put (s.place dst) x.result else s).flag .tf = s.flag .tf := by
    split
    · exact State.flag_put s _ _ .tf
    · rfl
  have he : (if o.writes then s.put (s.place dst) x.result else s).eip = s.eip := by split <;> simp
  exact ⟨x, hx, by rw [exec_twoOperand h, straight_arith hf hbody htf he]⟩

/-- INC and DEC, `x` being the result and the flags their rule computes from the register (R290, R291). -/
theorem exec_count {i : Instr} {r : Reg} {x : Word → Arith} {s : State} (hf : s.mayFinish i = true)
    (hm : exec i s = straight i (update fun s =>
      (s.setR16 r (x (s.r16 r)).result).setArith { x (s.r16 r) with cf := s.flag .cf }) s) :
    exec i s = .next (((s.setR16 r (x (s.r16 r)).result).setArith
      { x (s.r16 r) with cf := s.flag .cf }).atEnd i) := by
  rw [hm, straight_ok hf (run_update _ s) (by rw [State.setArith_tf, State.flag_setR16]) (by simp)]

theorem addFlags_one (a : Word) : (addFlags a 1 false).result = a + 1 := by simp [addFlags_result]

theorem subFlags_one (a : Word) : (subFlags a 1 false).result = a - 1 := by simp [subFlags_result]

/-- Settles O11: the register holds the sum or the difference that the flags are those of. -/
theorem incDecResult : Obligations.IncDecResult := by
  intro r s
  refine ⟨by cases r <;> rfl, by cases r <;> rfl, fun hf => ?_, fun hf => ?_⟩
  · rw [← addFlags_one]
    exact exec_count (x := fun a => addFlags a 1 false) hf rfl
  · rw [← subFlags_one]
    exact exec_count (x := fun a => subFlags a 1 false) hf rfl

theorem subFlags_neg_result (a : Word) : (subFlags 0 a false).result = -a := by simp [subFlags_result]

/-- NEG borrows from every operand but 0 (R293). -/
theorem subFlags_neg_cf (a : Word) : (subFlags 0 a false).cf = decide (a ≠ 0) := by
  have h0 : a = 0 ↔ a.toNat = 0 := BitVec.toNat_inj.symm
  change decide ((0 : Int) - a.toNat - 0 < 0) = _
  rw [decide_eq_decide, ne_eq, h0]
  omega

/-- NEG overflows on the one operand whose opposite has no 16 bits (R293). -/
theorem subFlags_neg_ovf (a : Word) : (subFlags 0 a false).ovf = decide (a = 0x8000) := by
  have h8 : a = 0x8000 ↔ a.toNat = 0x8000 := BitVec.toNat_inj.symm
  have ha := word_toInt a
  rw [subFlags_ovf, decide_eq_decide, h8]
  change ((0 : Int) - a.toInt - 0 < _ ∨ _ ≤ (0 : Int) - a.toInt - 0) ↔ _
  omega

/-- Settles O12: the operand is located once, read and written back. -/
theorem notNegResult : Obligations.NotNegResult := by
  intro rm a s ha ht
  refine ⟨fun hf => ?_, fun hf => ⟨?_, subFlags_neg_cf a, subFlags_neg_ovf a⟩⟩
  · have hnot : ~~~a = a ^^^ 0xFFFF#16 := (BitVec.xor_allOnes (x := a)).symm
    rw [hnot]
    refine straight_ok (body := do let l ← locate rm; let a ← readLoc l; writeLoc l (a ^^^ 0xFFFF#16)) hf ?_
      (State.flag_put s _ _ .tf) (by simp)
    rw [locate_read ha, writeLoc_ok _ ht]
  · rw [← subFlags_neg_result]
    refine straight_ok (body := do
        let l ← locate rm
        let a ← readLoc l
        writeLoc l (subFlags 0 a false).result
        update fun s => s.setArith (subFlags 0 a false)) hf ?_ (by rw [State.setArith_tf, State.flag_put]) (by simp)
    rw [locate_read ha, run_bind_ok (writeLoc_ok _ ht), run_update]

end Sys2Proof.Machine
end

section
/-! PROOFS. Products, quotients and the divide error: O13, O14. -/

namespace Sys2Proof.Machine

/-! ### Products (R294, R295) -/

theorem low16_eq_ofNat (p : Dword) : low16 p = BitVec.ofNat 16 p.toNat := by
  apply BitVec.eq_of_toNat_eq
  simp [low16]

theorem high16_eq_ofNat (p : Dword) : p.extractLsb' 16 16 = BitVec.ofNat 16 (p.toNat / 2 ^ 16) := by
  apply BitVec.eq_of_toNat_eq
  rw [BitVec.extractLsb'_toNat, Nat.shiftRight_eq_div_pow, BitVec.toNat_ofNat]

theorem low16_eq_ofInt (p : Dword) : low16 p = BitVec.ofInt 16 p.toInt := by
  apply BitVec.eq_of_toNat_eq
  rw [BitVec.toNat_ofInt, BitVec.toInt_eq_toNat_cond, low16_eq_ofNat, BitVec.toNat_ofNat]
  split <;> omega

theorem high16_eq_ofInt (p : Dword) : p.extractLsb' 16 16 = BitVec.ofInt 16 (p.toInt / 2 ^ 16) := by
  apply BitVec.eq_of_toNat_eq
  rw [BitVec.toNat_ofInt, BitVec.toInt_eq_toNat_cond, high16_eq_ofNat, BitVec.toNat_ofNat]
  split <;> omega

/-- The product of two words fits 32 bits (R294). -/
theorem product_toNat (a b : Word) : (zext32 a * zext32 b).toNat = a.toNat * b.toNat := by
  have h : a.toNat * b.toNat < 2 ^ 16 * 2 ^ 16 := Nat.mul_lt_mul'' a.isLt b.isLt
  rw [BitVec.toNat_mul, zext32_toNat, zext32_toNat, Nat.mod_eq_of_lt (by omega)]

/-- So does the product of two signed words (R295). -/
theorem product_toInt (a b : Word) : (a.signExtend 32 * b.signExtend 32).toInt = a.toInt * b.toInt := by
  have hle : a.toInt * b.toInt ≤ 2 ^ 30 := BitVec.toInt_mul_toInt_le
  have hge : -2 ^ 30 ≤ a.toInt * b.toInt := BitVec.le_toInt_mul_toInt
  rw [BitVec.toInt_mul, BitVec.toInt_signExtend_of_le (by decide), BitVec.toInt_signExtend_of_le (by decide),
    Int.bmod_eq_of_le (by omega) (by omega)]

/-- The upper half of a product matters where it is not 0 (R294). -/
theorem product_wide (p : Dword) : (p.extractLsb' 16 16 ≠ 0#16) ↔ 2 ^ 16 ≤ p.toNat := by
  have hp := p.isLt
  rw [high16_eq_ofNat, ne_eq, ← BitVec.toNat_inj, BitVec.toNat_ofNat, BitVec.toNat_ofNat]
  omega

/-- That of a signed one where the lower half does not extend to it (R295). -/
theorem signedProduct_wide (p : Dword) :
    p ≠ (low16 p).signExtend 32 ↔ p.toInt < -2 ^ 15 ∨ 2 ^ 15 ≤ p.toInt := by
  rw [ne_eq, ← BitVec.toInt_inj, BitVec.toInt_signExtend_of_le (by decide), word_toInt, low16_eq_ofNat,
    BitVec.toNat_ofNat, BitVec.toInt_eq_toNat_cond]
  have hp := p.isLt
  split <;> split <;> omega

/-- What MUL and IMUL do between their fetch and their end. -/
def productBody (rm : Rm) (p : Word → Word → Dword) (wide : Dword → Bool) : M Unit := do
  let b ← readRm rm
  let a ← regSource .ax
  update fun s => s.setProduct (p a b)
  setMulFlags (wide (p a b))

/-- MUL and IMUL, `p` being their product and `wide` whether its upper half matters. -/
theorem exec_product {i : Instr} {rm : Rm} {b : Word} {s : State} {p : Word → Word → Dword} {wide : Dword → Bool}
    (hf : s.mayFinish i = true) (hb : s.holdsAt (s.place rm) = some b)
    (hm : exec i s = straight i (productBody rm p wide) s) :
    ∃ x : Arith, x.cf = wide (p (s.r16 .ax) b) ∧ x.ovf = x.cf ∧
      exec i s = .next ((((s.setProduct (p (s.r16 .ax) b)).setArith x).drew 4).atEnd i) := by
  obtain ⟨x, hcf, hovf, hx⟩ := setMulFlags_ok (wide (p (s.r16 .ax) b)) (s.setProduct (p (s.r16 .ax) b))
  have hbody : productBody rm p wide s = .ok ((), ((s.setProduct (p (s.r16 .ax) b)).setArith x).drew 4) := by
    rw [productBody, run_bind_ok (readRm_ok hb), regSource, run_view_bind, run_update_bind, hx]
  exact ⟨x, hcf, hovf.trans hcf.symm, by
    rw [hm, straight_arith hf hbody (State.flag_setProduct s _ .tf) (by simp)]⟩

/-! ### Quotients (R296, R297) -/

/-- What DIV and IDIV do between their fetch and their end. -/
def quotientBody (rm : Rm) (quotient : Dword → Word → Option (Word × Word)) : M Unit := do
  let v ← readRm rm
  putQuotient (quotient (← view fun s => s.dividend) v)

/-- DIV and IDIV where `quotient` gives a quotient and a remainder. -/
theorem exec_quotient {i : Instr} {rm : Rm} {d q r : Word} {s : State} {quotient : Dword → Word → Option (Word × Word)}
    (hf : s.mayFinish i = true) (hd : s.holdsAt (s.place rm) = some d)
    (hm : exec i s = straight i (quotientBody rm quotient) s)
    (hq : quotient s.dividend d = some (q, r)) :
    ∃ x : Arith, exec i s = .next (((((s.setR16 .ax q).setR16 .dx r).setArith x).drew 6).atEnd i) := by
  obtain ⟨x, hx⟩ := setDivFlags_ok ((s.setR16 .ax q).setR16 .dx r)
  have hbody : quotientBody rm quotient s = .ok ((), (((s.setR16 .ax q).setR16 .dx r).setArith x).drew 6) := by
    rw [quotientBody, run_bind_ok (readRm_ok hd), run_view_bind, hq, putQuotient, run_update_bind, hx]
  exact ⟨x, by rw [hm, straight_arith hf hbody (by rw [State.flag_setR16, State.flag_setR16]) (by simp)]⟩

/-- DIV and IDIV where there is none: the divide error, nothing done before it (R361). -/
theorem exec_divideError {i : Instr} {rm : Rm} {d : Word} {s : State} {quotient : Dword → Word → Option (Word × Word)}
    (hp : s.pastLimit i = false) (hd : s.holdsAt (s.place rm) = some d) (he : s.canEnter 0 = true)
    (hm : exec i s = straight i (quotientBody rm quotient) s)
    (hq : quotient s.dividend d = none) : exec i s = .next (s.entered 0 s.ip) := by
  have hbody : quotientBody rm quotient s = .error (.raise .de s) := by
    rw [quotientBody, run_bind_ok (readRm_ok hd), run_view_bind, hq, putQuotient, run_raise]
  rw [hm, straight_raise hp hbody]
  exact deliverFault_entered (e := .de) he

theorem divide_some {n : Dword} {d : Word} (h0 : d ≠ 0) (hq : n.toNat / d.toNat ≤ 0xFFFF) :
    divide n d = some (BitVec.ofNat 16 (n.toNat / d.toNat), BitVec.ofNat 16 (n.toNat % d.toNat)) := by
  rw [divide, if_neg h0, if_neg (by omega)]

theorem divide_none {n : Dword} {d : Word} (h : d = 0 ∨ 0xFFFF < n.toNat / d.toNat) : divide n d = none := by
  by_cases h0 : d = 0
  · rw [divide, if_pos h0]
  · rw [divide, if_neg h0, if_pos (h.resolve_left h0)]

theorem divideSigned_some {n : Dword} {d : Word} (h0 : d ≠ 0) (hmax : n.toInt.tdiv d.toInt ≤ 0x7FFF)
    (hmin : -0x8000 ≤ n.toInt.tdiv d.toInt) : divideSigned n d =
      some (BitVec.ofInt 16 (n.toInt.tdiv d.toInt), BitVec.ofInt 16 (n.toInt.tmod d.toInt)) := by
  rw [divideSigned, if_neg h0, if_neg (by omega), Int.tmod_def, Int.mul_comm]

theorem divideSigned_none {n : Dword} {d : Word}
    (h : d = 0 ∨ 0x7FFF < n.toInt.tdiv d.toInt ∨ n.toInt.tdiv d.toInt < -0x8000) : divideSigned n d = none := by
  by_cases h0 : d = 0
  · rw [divideSigned, if_pos h0]
  · rw [divideSigned, if_neg h0, if_pos (h.resolve_left h0)]

/-! ### The instructions -/

/-- Settles O13: by the halves of the product, and by the quotient and remainder that fit. -/
theorem multiplyDivideResult : Obligations.MultiplyDivideResult := by
  intro rm b s hb
  refine ⟨fun hf => ?_, fun hf => ?_, fun hf h0 hq => ?_, fun hf h0 hmax hmin => ?_⟩
  · obtain ⟨x, hcf, hovf, he⟩ := exec_product (p := fun a b => zext32 a * zext32 b)
      (wide := fun p => decide (p.extractLsb' 16 16 ≠ 0#16)) hf hb rfl
    rw [State.setProduct, low16_eq_ofNat, high16_eq_ofNat, product_toNat] at he
    exact ⟨x, by rw [hcf, decide_eq_decide, product_wide, product_toNat], hovf, he⟩
  · obtain ⟨x, hcf, hovf, he⟩ := exec_product (p := fun a b => a.signExtend 32 * b.signExtend 32)
      (wide := fun p => decide (p ≠ (low16 p).signExtend 32)) hf hb rfl
    rw [State.setProduct, low16_eq_ofInt, high16_eq_ofInt, product_toInt] at he
    exact ⟨x, by rw [hcf, decide_eq_decide, signedProduct_wide, product_toInt], hovf, he⟩
  · exact exec_quotient hf hb rfl (divide_some h0 hq)
  · exact exec_quotient hf hb rfl (divideSigned_some h0 hmax hmin)

/-- A trap entry writes no register but SP (R366). -/
theorem State.entered_r16 (s : State) (n : Byte) (rip : Word) {r : Reg} (h : r ≠ .sp) :
    (s.entered n rip).r16 r = s.r16 r := by
  unfold State.entered
  split
  · rfl
  · next off seg _ =>
    refine (State.r16_of_gpr (s := State.setR16 _ .sp (s.slotBelow 3)) rfl r).trans ?_
    rw [State.r16_setR16, if_neg h]
    exact State.r16_of_gpr (by simp) r

/-- Settles O14: neither division gives a quotient. -/
theorem divideErrorTaken : Obligations.DivideErrorTaken := by
  intro rm d s hd he
  exact ⟨fun hp h => exec_divideError hp hd he rfl (divide_none h),
    fun hp h => exec_divideError hp hd he rfl (divideSigned_none h),
    s.entered_r16 0 s.ip (by decide), s.entered_r16 0 s.ip (by decide)⟩

end Sys2Proof.Machine
end

section
/-! PROOFS. The shifts: O15. -/

namespace Sys2Proof.Machine

theorem maskCount_eq (c : Byte) : maskCount c = c.toNat % 32 := by
  rw [maskCount, BitVec.toNat_and]
  exact Nat.and_two_pow_sub_one_eq_mod c.toNat 5

theorem shl_eq_ofNat (a : Word) (n : Nat) : a <<< n = BitVec.ofNat 16 (a.toNat * 2 ^ n) := by
  apply BitVec.eq_of_toNat_eq
  rw [BitVec.toNat_shiftLeft, Nat.shiftLeft_eq, BitVec.toNat_ofNat]

theorem shr_eq_ofNat (a : Word) (n : Nat) : a >>> n = BitVec.ofNat 16 (a.toNat / 2 ^ n) := by
  apply BitVec.eq_of_toNat_eq
  have hlt : a.toNat / 2 ^ n < 2 ^ 16 := Nat.lt_of_le_of_lt (Nat.div_le_self _ _) a.isLt
  rw [BitVec.toNat_ushiftRight, Nat.shiftRight_eq_div_pow, BitVec.toNat_ofNat, Nat.mod_eq_of_lt hlt]

theorem sar_eq_ofInt (a : Word) (n : Nat) : a.sshiftRight n = BitVec.ofInt 16 (a.toInt / 2 ^ n) := by
  rw [BitVec.sshiftRight_eq, Int.shiftRight_eq_div_pow]
  norm_cast

/-- What a shift computes is what R298 to R300 fix, whatever its free values are. -/
theorem ShiftOp.compute_gives {o : ShiftOp} {a : Word} {n : Nat} {x : Arith} {s t : State}
    (h : o.compute a n s = .ok (x, t)) : o.gives a n x := by
  cases o
  case shl =>
    cases h
    exact ⟨rfl, rfl, rfl, shl_eq_ofNat a n, fun hn => if_pos hn, fun hn => if_pos hn⟩
  case shr =>
    cases h
    exact ⟨rfl, rfl, rfl, shr_eq_ofNat a n, fun hn => if_pos hn, fun hn => if_pos hn⟩
  case sar =>
    cases h
    exact ⟨rfl, rfl, rfl, sar_eq_ofInt a n, fun hn => if_pos hn, fun hn => if_neg (by omega), fun hn => if_pos hn⟩

/-- Settles O15: by the body that the nine encodings share. -/
theorem shiftResult : Obligations.ShiftResult := by
  intro i o rm count a s h ha ht hf
  obtain ⟨hzero, hsome⟩ := shiftBody_ok (o := o) (count := count) ha ht
  rw [← maskCount_eq, exec_shift h]
  refine ⟨fun h0 => straight_ok hf (hzero h0) (State.flag_put s _ a .tf) (by simp), fun h0 => ?_⟩
  obtain ⟨x, hx, hbody⟩ := hsome h0
  exact ⟨x, ShiftOp.compute_gives hx, straight_arith hf hbody (State.flag_put s _ _ .tf) (by simp)⟩

end Sys2Proof.Machine
end

section
/-! PROOFS. MOV, PUSH and POP: O16, O18. -/

namespace Sys2Proof.Machine

/-- An instruction whose body completes and leaves EFLAGS and the pc alone. -/
theorem exec_flagsKept {i : Instr} {body : M Unit} {s t : State} (hf : s.mayFinish i = true)
    (hm : exec i s = straight i body s) (hb : body s = .ok ((), t)) (he : t.eflags = s.eflags) (hip : t.eip = s.eip) :
    exec i s = .next (t.atEnd i) := by
  rw [hm, straight_ok hf hb (State.flag_of_eflags he .tf) hip]

/-- An instruction that does nothing but store a value of its own (R272, R275, R276, R278). -/
theorem exec_store {i : Instr} {rm : Rm} {s : State} (g : State → Word) (hf : s.mayFinish i = true)
    (ht : s.takes (s.place rm) = true)
    (hm : exec i s = straight i (do let l ← locate rm; writeLoc l (← view g)) s) :
    exec i s = .next ((s.put (s.place rm) (g s)).atEnd i) := by
  refine exec_flagsKept hf hm ?_ (by simp) (by simp)
  rw [run_bind_ok (by rw [locate_eq, locatePlace_ok (State.inBounds_of_takes ht)]), run_view_bind, writeLoc_ok _ ht]

/-- Settles O16: a register is written, or an operand is located and stored to. -/
theorem moveResult : Obligations.MoveResult := by
  intro s rm r r8 sr b v w
  refine ⟨fun hf => ?_, fun hf => ?_, fun hf ht => ?_, fun hf hw => ?_, fun hf hw => ?_, fun hf ht => ?_,
    fun hf ht => ?_, fun hf ht => ?_⟩
  · exact exec_flagsKept hf rfl (run_update _ s) (by simp) (by simp)
  · exact exec_flagsKept hf rfl (run_update _ s) (by simp) (by simp)
  · exact exec_store (fun s => s.r16 r) hf ht rfl
  · exact exec_flagsKept (body := readRm rm >>= fun v => update fun s => s.setR16 r v) hf rfl
      (by rw [run_bind_ok (readRm_ok hw), run_update]) (by simp) (by simp)
  · exact exec_flagsKept (body := do
        let l ← locate (.direct v)
        let w ← readLoc l
        update fun s => s.setR16 .ax w) hf rfl
      (by rw [locate_read (rm := .direct v) hw, run_update]) (by simp) (by simp)
  · exact exec_store (rm := .direct v) (fun s => s.r16 .ax) hf ht rfl
  · exact exec_store (fun _ => v) hf ht rfl
  · exact exec_store (fun s => (s.seg sr).sel) hf ht rfl

/-- Settles O18: PUSH takes the value before SP moves, and POP writes its register after. -/
theorem pushPopResult : Obligations.PushPopResult := by
  intro s r v
  refine ⟨fun hf hs => ?_, fun hf hv => ?_⟩
  · exact exec_flagsKept (body := regSource r >>= push16) hf rfl (push16_ok (s.r16 r) hs) (by simp) (by simp)
  · refine exec_flagsKept (body := pop16 >>= fun v => update fun s => s.setR16 r v) hf rfl ?_ (by simp) (by simp)
    rw [run_bind_ok (pop16_ok (by rwa [State.slotAbove_zero])), run_update]
    rfl

end Sys2Proof.Machine
end

section
/-! PROOFS. CALL, RET, INT and IRET: O22, O23, O24, O32. -/

namespace Sys2Proof.Machine

/-! ### Calls and software interrupts (R310, R311, R313, R314) -/

/-- Settles O22: both go to their target once the stack slot is written or read. -/
theorem callRetResult : Obligations.CallRetResult := by
  refine fun s rel t htf => ⟨fun hp hs ht => ?_, fun hv ht => ?_⟩
  · rw [exec_callRel16 hp hs ht, follow_goto (by rw [State.flag_setR16]; exact htf)]
    rfl
  · rw [exec_ret hv ht, follow_goto (by rwa [State.flag_setR16])]
    rfl

theorem softwareInterrupt_entered {i : Instr} {n : Byte} {s : State} (hp : s.pastLimit i = false)
    (he : s.canEnter n = true) : softwareInterrupt i n s = .next (s.entered n (s.nextIp i)) := by
  rw [softwareInterrupt, savedIp_ok hp, conclude_ok, deliver_entered false _ he]

/-- Settles O23: `next_ip` can be saved, and the entry meets no obstacle. -/
theorem softwareInterruptEnters : Obligations.SoftwareInterruptEnters :=
  fun _ _ => ⟨softwareInterrupt_entered, softwareInterrupt_entered⟩

/-! ### IRET (R315) -/

/-- What the pops of IRET leave before the jump: `cs` and `fl` are the words above the new pc. -/
def State.returned (s : State) (cs fl : Word) : State :=
  { (s.setR16 .sp (s.r16 .sp + 6)).loadSeg .cs cs with
    eflags := s.eflags.load16 fl, latch := { s.latch with nmiBlocked := false } }

theorem State.inLimit_of_holdsAt {s : State} {sg : Sreg} {off v : Word} (h : s.holdsAt (.mem sg off) = some v) :
    s.inLimit sg off 2 = true := State.inBounds_of_holdsAt h

/-- Three slots that hold words, the first a target within the limit of CS, are popped (R315). -/
theorem trapReturn_ok {s : State} {ip cs fl : Word} (h0 : s.holdsAt (.mem .ss (s.r16 .sp)) = some ip)
    (h1 : s.holdsAt (.mem .ss (s.r16 .sp + 2)) = some cs) (h2 : s.holdsAt (.mem .ss (s.r16 .sp + 4)) = some fl)
    (ht : s.inLimit .cs ip 1 = true) : trapReturn s = .ok (ip, s.returned cs fl) := by
  rw [← s.slotAbove_zero] at h0
  change s.holdsAt (.mem .ss (s.slotAbove 1)) = _ at h1
  change s.holdsAt (.mem .ss (s.slotAbove 2)) = _ at h2
  rw [trapReturn]
  simp only [run_view_bind]
  rw [run_bind_ok (checkLimit_ok (State.inLimit_of_holdsAt h0)),
    run_bind_ok (checkLimit_ok (State.inLimit_of_holdsAt h1)),
    run_bind_ok (checkLimit_ok (State.inLimit_of_holdsAt h2)), run_view_bind,
    run_bind_ok (readWord_peek (State.peekWord_of_holdsAt h0)),
    run_bind_ok (readWord_peek (State.peekWord_of_holdsAt h1)),
    run_bind_ok (readWord_peek (State.peekWord_of_holdsAt h2)), run_bind_ok (checkTarget_ok ht)]
  rfl

/-- Settles O24: TF of the popped image is what the end of the instruction looks at. -/
theorem iretResult : Obligations.IretResult := by
  intro s ip cs fl h0 h1 h2 ht
  have hexec : exec .iret s = follow .iret s (.goto ip) (s.returned cs fl) :=
    transfer_follow (by rw [run_bind_ok (trapReturn_ok h0 h1 h2 ht), run_pure])
  refine ⟨fun htf => ⟨_, ?_, rfl⟩, fun htf => ?_⟩
  · rw [hexec, follow_goto (t := s.returned cs fl) htf]
    rfl
  · rw [hexec, follow_trap (t := s.returned cs fl) htf fun h => by cases h]

/-! ### IRET after INT n (R313, R315, R369) -/

theorem State.phys_mod (s : State) (lin : Dword) : s.phys lin % 2 ^ 20 = lin.toNat % 2 ^ 20 := by
  cases h : s.latch.a20Mask with
  | false => rw [State.phys_unmasked h]
  | true =>
    rw [State.phys_masked h, BitVec.toNat_and, ← Nat.and_two_pow_sub_one_eq_mod, Nat.and_assoc]
    exact (congrArg (lin.toNat &&& ·) (by decide)).trans (Nat.and_two_pow_sub_one_eq_mod _ 20)

theorem State.linear_mod (s : State) (sg : Sreg) (off : Word) :
    (s.linear sg off).toNat % 2 ^ 20 = ((s.seg sg).base.toNat + off.toNat) % 2 ^ 20 := by
  rw [State.linear, BitVec.toNat_add, zext32_toNat]
  omega

/-- Words of one segment whose offsets lie two or more apart share no byte, whatever A20M# masks (R78). -/
theorem State.wordAt_apart (s : State) (sg : Sreg) {p q : Word} (h : p.toNat + 2 ≤ q.toNat ∨ q.toNat + 2 ≤ p.toNat)
    {a : Nat} (ha : a ∈ s.wordAt (s.linear sg q)) : a ∉ s.wordAt (s.linear sg p) := by
  have hp := s.linear_mod sg p
  have hq := s.linear_mod sg q
  have hmod := s.phys_mod
  have hsucc : ∀ lin : Dword, (lin + 1).toNat % 2 ^ 20 = (lin.toNat + 1) % 2 ^ 20 := fun lin => by
    have hadd : (lin + 1).toNat = (lin.toNat + 1) % 2 ^ 32 := BitVec.toNat_add lin 1
    omega
  have hp' := (hmod (s.linear sg p + 1)).trans (hsucc _)
  have hq' := (hmod (s.linear sg q + 1)).trans (hsucc _)
  have := hmod (s.linear sg p)
  have := hmod (s.linear sg q)
  rw [State.mem_wordAt] at ha ⊢
  have := p.isLt
  have := q.isLt
  omega

theorem State.pokeWord_peekByte_other {s : State} {lin lin' : Dword} (v : Word) (h : s.phys lin' ∉ s.wordAt lin) :
    (s.pokeWord lin v).peekByte lin' = s.peekByte lin' := by
  simp only [State.peekByte, State.pokeWord_phys, State.pokeWord_board, State.pokeWord_get h]

theorem State.pokeWord_peekWord_other {s : State} {lin lin' : Dword} (v : Word)
    (h : ∀ a ∈ s.wordAt lin', a ∉ s.wordAt lin) : (s.pokeWord lin v).peekWord lin' = s.peekWord lin' := by
  rw [State.peekWord, State.peekWord, State.pokeWord_peekByte_other v (h _ List.mem_cons_self),
    State.pokeWord_peekByte_other v (h _ (List.mem_cons_of_mem _ List.mem_cons_self))]

theorem State.pokeWord_wordAt (s : State) (lin k : Dword) (v : Word) : (s.pokeWord lin v).wordAt k = s.wordAt k := rfl

/-- Of three words that share no byte, stored one after another, each reads back. -/
theorem State.pokeWords_peekWord {s : State} {l m n : Dword} (u v w : Word) (hl : s.storable l = true)
    (hm : s.storable m = true) (hn : s.storable n = true) (hlm : ∀ a ∈ s.wordAt l, a ∉ s.wordAt m)
    (hln : ∀ a ∈ s.wordAt l, a ∉ s.wordAt n) (hmn : ∀ a ∈ s.wordAt m, a ∉ s.wordAt n) :
    (((s.pokeWord l u).pokeWord m v).pokeWord n w).peekWord l = some u ∧
    (((s.pokeWord l u).pokeWord m v).pokeWord n w).peekWord m = some v ∧
    (((s.pokeWord l u).pokeWord m v).pokeWord n w).peekWord n = some w := by
  refine ⟨?_, ?_, ?_⟩
  · rw [State.pokeWord_peekWord_other w (by simpa only [State.pokeWord_wordAt] using hln),
      State.pokeWord_peekWord_other v (by simpa only [State.pokeWord_wordAt] using hlm), State.pokeWord_peekWord u hl]
  · rw [State.pokeWord_peekWord_other w (by simpa only [State.pokeWord_wordAt] using hmn),
      State.pokeWord_peekWord v (by rwa [State.pokeWord_storable])]
  · rw [State.pokeWord_peekWord w (by rwa [State.pokeWord_storable, State.pokeWord_storable])]

/-- Two of the three slots of a trap entry lie two or more apart. -/
theorem State.slotBelow_apart (s : State) {j k : Nat} (hj : j ≤ 3) (hk : k ≤ 3) (h : j ≠ k) :
    (s.slotBelow j).toNat + 2 ≤ (s.slotBelow k).toNat ∨ (s.slotBelow k).toNat + 2 ≤ (s.slotBelow j).toNat := by
  have hs : ∀ n ≤ 3, (s.slotBelow n).toNat = (2 ^ 16 - 2 * n + (s.r16 .sp).toNat) % 2 ^ 16 := fun n hn => by
    rw [State.slotBelow, BitVec.toNat_sub, BitVec.toNat_ofNat, Nat.mod_eq_of_lt (a := 2 * n) (by omega)]
  have := (s.r16 .sp).isLt
  rw [hs j hj, hs k hk]
  omega

/-- The three stores of a trap entry. -/
def State.framed (s : State) (rip : Word) : State :=
  ((s.pokeWord (s.linear .ss (s.slotBelow 1)) s.flags16).pokeWord
    (s.linear .ss (s.slotBelow 2)) (s.seg .cs).sel).pokeWord (s.linear .ss (s.slotBelow 3)) rip

theorem State.entered_eq {s : State} {n : Byte} {off seg : Word} (rip : Word) (h : s.vector n = some (off, seg)) :
    s.entered n rip = (s.framed rip).enterHandler (s.slotBelow 3) seg off := by
  rw [State.entered, h]
  rfl

/-- The frame reads back: FLAGS, CS and the saved IP (R366). -/
theorem State.framed_peekWord {s : State} (rip : Word) (h1 : s.slotFree 1 = true) (h2 : s.slotFree 2 = true)
    (h3 : s.slotFree 3 = true) :
    (s.framed rip).peekWord (s.linear .ss (s.slotBelow 1)) = some s.flags16 ∧
    (s.framed rip).peekWord (s.linear .ss (s.slotBelow 2)) = some (s.seg .cs).sel ∧
    (s.framed rip).peekWord (s.linear .ss (s.slotBelow 3)) = some rip := by
  have hapart : ∀ j k, j ≤ 3 → k ≤ 3 → k ≠ j → ∀ a ∈ s.wordAt (s.linear .ss (s.slotBelow j)),
      a ∉ s.wordAt (s.linear .ss (s.slotBelow k)) := fun j k hj hk h a =>
    s.wordAt_apart .ss (s.slotBelow_apart hk hj h)
  rw [State.framed]
  exact State.pokeWords_peekWord _ _ _ (State.slotFree_storable h1) (State.slotFree_storable h2)
    (State.slotFree_storable h3) (hapart 1 2 (by decide) (by decide) (by decide))
    (hapart 1 3 (by decide) (by decide) (by decide)) (hapart 2 3 (by decide) (by decide) (by decide))

theorem State.canEnter_iff (s : State) (n : Byte) : s.canEnter n = true ↔
    4 * n.toNat + 3 ≤ s.sys.idtr.limit.toNat ∧ (∃ off seg, s.vector n = some (off, seg)) ∧
      s.slotFree 1 = true ∧ s.slotFree 2 = true ∧ s.slotFree 3 = true := by
  simp only [State.canEnter, Bool.and_eq_true, decide_eq_true_eq, Option.isSome_iff_exists, Prod.exists, and_assoc]

theorem State.slotFree_inLimit {s : State} {k : Nat} (h : s.slotFree k = true) :
    s.inLimit .ss (s.slotBelow k) 2 = true := (Bool.and_eq_true_iff.1 h).1

theorem State.enterHandler_gpr (s : State) (sp seg ip : Word) :
    (s.enterHandler sp seg ip).gpr = (s.setR16 .sp sp).gpr := rfl

theorem State.enterHandler_sreg (s : State) (sp seg ip : Word) :
    (s.enterHandler sp seg ip).sreg = (s.loadSeg .cs seg).sreg := rfl

theorem State.enterHandler_eflags (s : State) (sp seg ip : Word) :
    (s.enterHandler sp seg ip).eflags = { s.eflags with intf := false, tf := false, ac := false } := rfl

theorem State.framed_gpr (s : State) (rip : Word) : (s.framed rip).gpr = s.gpr := by simp [State.framed]

theorem State.framed_sreg (s : State) (rip : Word) : (s.framed rip).sreg = s.sreg := by simp [State.framed]

theorem State.framed_eflags (s : State) (rip : Word) : (s.framed rip).eflags = s.eflags := by simp [State.framed]

theorem State.setR16_sp_gpr (s : State) (v : Word) :
    (s.setR16 .sp v).gpr = { s.gpr with esp := putLow16 s.gpr.esp v } := rfl

theorem State.loadSeg_cs_sreg (s : State) (v : Word) :
    (s.loadSeg .cs v).sreg = { s.sreg with cs := s.sreg.cs.load v } := rfl

/-- A word of the frame is what a pop of its slot reads. -/
theorem State.framed_holdsAt {s : State} {rip v : Word} {k : Nat} (h : s.slotFree k = true)
    (hv : (s.framed rip).peekWord (s.linear .ss (s.slotBelow k)) = some v) :
    (s.framed rip).holdsAt (.mem .ss (s.slotBelow k)) = some v := by
  rw [State.holdsAt, State.inLimit_of_sreg (s.framed_sreg rip), State.linear_of_sreg (s.framed_sreg rip),
    if_pos (State.slotFree_inLimit h), hv]

/-- A handler finds the stack as the entry left it. -/
theorem State.enterHandler_holdsAt (s : State) (sp seg ip off : Word) :
    (s.enterHandler sp seg ip).holdsAt (.mem .ss off) = s.holdsAt (.mem .ss off) := rfl

/-- The state `t` a handler begins in, `rip` being the saved IP and `seg` the handler's segment: the frame on the
stack, and what the entry changes of registers and flags (R366). -/
structure EnteredFrom (s : State) (rip seg : Word) (t : State) : Prop where
  savedIp : t.holdsAt (.mem .ss (s.slotBelow 3)) = some rip
  savedCs : t.holdsAt (.mem .ss (s.slotBelow 2)) = some (s.seg .cs).sel
  savedFlags : t.holdsAt (.mem .ss (s.slotBelow 1)) = some s.flags16
  gpr : t.gpr = { s.gpr with esp := putLow16 s.gpr.esp (s.slotBelow 3) }
  sreg : t.sreg = { s.sreg with cs := s.sreg.cs.load seg }
  eflags : t.eflags = { s.eflags with intf := false, tf := false, ac := false }

theorem State.entered_enteredFrom {s : State} {n : Byte} (rip : Word) (he : s.canEnter n = true) :
    ∃ seg, EnteredFrom s rip seg (s.entered n rip) := by
  obtain ⟨-, ⟨off, seg, hvec⟩, h1, h2, h3⟩ := (s.canEnter_iff n).1 he
  obtain ⟨hfl, hcs, hrip⟩ := State.framed_peekWord rip h1 h2 h3
  rw [State.entered_eq rip hvec]
  exact ⟨seg, {
    savedIp := by rw [State.enterHandler_holdsAt, State.framed_holdsAt h3 hrip]
    savedCs := by rw [State.enterHandler_holdsAt, State.framed_holdsAt h2 hcs]
    savedFlags := by rw [State.enterHandler_holdsAt, State.framed_holdsAt h1 hfl]
    gpr := by rw [State.enterHandler_gpr, State.setR16_sp_gpr, State.framed_gpr]
    sreg := by rw [State.enterHandler_sreg, State.loadSeg_cs_sreg, State.framed_sreg]
    eflags := by rw [State.enterHandler_eflags, State.framed_eflags] }⟩

theorem EnteredFrom.sp {s t : State} {rip seg : Word} (h : EnteredFrom s rip seg t) : t.r16 .sp = s.slotBelow 3 := by
  change low16 t.gpr.esp = _
  rw [h.gpr, low16_putLow16]

/-- CS keeps its limit, so `rip` is a target IRET may go to where that limit is FFFFh (R79). -/
theorem EnteredFrom.target {s t : State} {rip seg : Word} (h : EnteredFrom s rip seg t)
    (hl : (s.seg .cs).limit = 0xFFFF) (ip : Word) : t.inLimit .cs ip 1 = true := by
  have hlimit : (t.seg .cs).limit = 0xFFFF := by
    change t.sreg.cs.limit = _
    rw [h.sreg]
    exact hl
  have hip : ip.toNat + 1 - 1 ≤ 65535 := by have := ip.isLt; omega
  rw [State.inLimit, hlimit]
  exact decide_eq_true hip

theorem State.slotBelow_three_add_two (s : State) : s.slotBelow 3 + 2 = s.slotBelow 2 := by
  change s.r16 .sp - 6 + 2 = s.r16 .sp - 4
  ring

theorem State.slotBelow_three_add_four (s : State) : s.slotBelow 3 + 4 = s.slotBelow 1 := by
  change s.r16 .sp - 6 + 4 = s.r16 .sp - 2
  ring

theorem State.slotBelow_three_add_six (s : State) : s.slotBelow 3 + 6 = s.r16 .sp := sub_add_cancel (s.r16 .sp) 6

theorem SegReg.load_self {g : SegReg} (h : g.base = selBase g.sel) (v : Word) : (g.load v).load g.sel = g := by
  change { g with sel := g.sel, base := selBase g.sel } = g
  rw [← h]

theorem putLow16_low16 (x : Dword) : putLow16 x (low16 x) = x := by
  apply BitVec.eq_of_getLsbD_eq
  intro i hi
  rw [putLow16_bit, low16, BitVec.getLsbD_setWidth]
  split <;> simp_all

/-- The image of FLAGS a trap entry pushes gives back all it changed but AC (R315, R366). -/
theorem Eflags.load16_entered (e : Eflags) :
    ({ e with intf := false, tf := false, ac := false } : Eflags).load16 e.bits16 = { e with ac := false } :=
  congrArg (fun f : Eflags => { f with ac := false }) e.load16_self

/-- What INT n leaves where it enters a handler (R313). -/
theorem exec_intImm8_entered {n : Byte} {s t : State} (he : s.canEnter n = true) (h : exec (.intImm8 n) s = .next t) :
    t = s.entered n (s.nextIp (.intImm8 n)) := by
  change softwareInterrupt (.intImm8 n) n s = .next t at h
  cases hp : s.pastLimit (.intImm8 n) with
  | true =>
    rw [softwareInterrupt_past hp] at h
    cases h
  | false =>
    rw [softwareInterrupt_entered hp he] at h
    cases h
    rfl

/-- Settles O32: the frame of the entry is what IRET pops, and of the rest the entry changes AC alone for good. -/
theorem iretUndoesInterrupt : Obligations.IretUndoesInterrupt := by
  intro n s t he htf hbase hlimit h
  obtain rfl := exec_intImm8_entered he h
  obtain ⟨seg, hent⟩ := State.entered_enteredFrom (s.nextIp (.intImm8 n)) he
  generalize s.nextIp (.intImm8 n) = rip at hent
  generalize s.entered n rip = t at hent
  have h0 : t.holdsAt (.mem .ss (t.r16 .sp)) = some rip := by
    rw [hent.sp, hent.savedIp]
  have h2 : t.holdsAt (.mem .ss (t.r16 .sp + 2)) = some (s.seg .cs).sel := by
    rw [hent.sp, s.slotBelow_three_add_two, hent.savedCs]
  have h4 : t.holdsAt (.mem .ss (t.r16 .sp + 4)) = some s.flags16 := by
    rw [hent.sp, s.slotBelow_three_add_four, hent.savedFlags]
  have himage : s.flags16.getLsbD 8 = false := (s.eflags.bits16_bit 8).trans htf
  obtain ⟨u, hu, rfl⟩ := (iretResult t rip (s.seg .cs).sel s.flags16 h0 h2 h4 (hent.target hlimit rip)).1 himage
  refine ⟨_, hu, low16_zext32 rip, ?_, ?_, ?_, rfl⟩
  · change { t.sreg with cs := t.sreg.cs.load (s.seg .cs).sel } = s.sreg
    rw [hent.sreg]
    exact congrArg (fun g => { s.sreg with cs := g }) (SegReg.load_self hbase seg)
  · change { t.gpr with esp := putLow16 t.gpr.esp (t.r16 .sp + 6) } = s.gpr
    rw [hent.sp, s.slotBelow_three_add_six, hent.gpr, putLow16_putLow16]
    exact congrArg (fun v => { s.gpr with esp := v }) (putLow16_low16 s.gpr.esp)
  · change t.eflags.load16 s.flags16 = _
    rw [hent.eflags]
    exact s.eflags.load16_entered

end Sys2Proof.Machine
end

section
/-! PROOFS. The flag instructions and HLT: O26, O27, O29. -/

namespace Sys2Proof.Machine

theorem exec_setFlag {i : Instr} {f : Flag} {b : State → Bool} {s : State} (hf : s.mayFinish i = true) (ht : f ≠ .tf)
    (hm : exec i s = straight i (update fun s => s.setFlag f (b s)) s) :
    exec i s = .next ((s.setFlag f (b s)).atEnd i) := by
  rw [hm, straight_ok hf (run_update _ s) (by rw [State.flag_setFlag, if_neg ht.symm]) (by simp)]

theorem State.intrReady_of_intf {s : State} (h : s.flag .intf = false) : s.intrReady = false := by
  rw [State.intrReady, h, Bool.and_false, Bool.false_and]

theorem State.intrReady_of_shadow {s : State} (h : s.intShadow = true) : s.intrReady = false := by
  rw [State.intrReady, h, Bool.not_true, Bool.and_false]

/-- Settles O26: each writes its flag, and INTR needs IF. -/
theorem flagInstructionResult : Obligations.FlagInstructionResult := by
  refine ⟨rfl, rfl, rfl, rfl, rfl, rfl, rfl, fun s => ⟨State.intrReady_of_intf rfl, fun hf => ?_, fun hf => ?_,
    fun hf => ?_, fun hf => ?_, fun hf => ?_, fun hf => ?_, fun hf => straight_ok hf (run_pure () s) rfl rfl⟩⟩
  all_goals exact exec_setFlag hf (by decide) rfl

/-- Settles O27: whether STI leaves a shadow is read from IF before it is set. -/
theorem stiDelaysInterrupts : Obligations.StiDelaysInterrupts := by
  intro s hf
  have hexec : exec .sti s = .next (((s.setFlag .intf true).setIp (s.nextIp .sti)).setShadow (shadowOfSti s)) :=
    straightShadow_ok (t := s.setFlag .intf true) (h := shadowOfSti s) hf rfl rfl
  refine ⟨fun hi => ⟨_, ?_, rfl, State.intrReady_of_shadow rfl⟩, fun hi => ?_⟩
  · rw [hexec, shadowOfSti, hi]
    rfl
  · have hkeep : s.setFlag .intf true = s := by
      change { s with eflags := { s.eflags with intf := true } } = s
      rw [← hi]
      rfl
    rw [hexec, shadowOfSti, hi, hkeep]
    rfl

/-! ### HLT and an idle core (R331, R387) -/

/-- A core that does not run and has no event to take makes empty steps, under RESET as well. -/
theorem coreStep_idle {s : State} (hr : s.run ≠ .running) (he : s.events = []) (ht : s.pinsTaken = false)
    (hn : s.tap.coreNeedsReset = false) (hm : s.realMode = true) (hb : s.breakpointArmed = false) :
    coreStep s = .next s := by
  cases h : s.run
  case running => exact absurd h hr
  all_goals simp [coreStep, he, h, ht, hn, hm, hb]

/-- A halted core waits for INIT, SMI#, NMI, INTR, FLUSH# or STPCLK# (R380). -/
theorem State.boundaryEvents_nil (s : State) : s.boundaryEvents = [] ↔ s.latch.initPending = false ∧
    s.latch.smiPending = false ∧ s.nmiReady = false ∧ s.intrReady = false ∧ s.latch.flushPending = false ∧
    s.pins.inp.stpclk = false := by
  simp [State.boundaryEvents]

theorem State.nmiReady_false (s : State) : s.nmiReady = false ↔
    s.latch.nmiPending = false ∨ s.latch.nmiBlocked = true ∨ s.latch.shadow = .movSs := by
  simp only [State.nmiReady, Bool.and_eq_false_iff, Bool.not_eq_false', decide_eq_false_iff_not, not_not, or_assoc]

theorem State.intrReady_false (s : State) : s.intrReady = false ↔
    s.pins.inp.intr = false ∨ s.flag .intf = false ∨ s.intShadow = true := by
  simp only [State.intrReady, Bool.and_eq_false_iff, Bool.not_eq_false', or_assoc]

theorem State.events_halted {s : State} (h : s.run = .halted) : s.events = s.boundaryEvents := by
  rw [State.events, h]

theorem State.events_halted_nil {s : State} (h : s.run = .halted) : s.events = [] ↔
    s.latch.initPending = false ∧ s.latch.smiPending = false ∧
    (s.latch.nmiPending = false ∨ s.latch.nmiBlocked = true ∨ s.latch.shadow = .movSs) ∧
    (s.pins.inp.intr = false ∨ s.flag .intf = false ∨ s.intShadow = true) ∧
    s.latch.flushPending = false ∧ s.pins.inp.stpclk = false := by
  rw [State.events_halted h, State.boundaryEvents_nil, State.nmiReady_false, State.intrReady_false]

/-- Settles O29: an idle core has no event, and what that means of a halted one. -/
theorem haltStops : Obligations.HaltStops := by
  refine ⟨fun s hf => straight_ok (t := { s with run := .halted }) hf (run_update _ s) rfl rfl,
    fun s hr he ht hn hm hb => ?_, fun s => State.events_halted_nil,
    fun s hr _ ht hn hm hb hi hinit hsmi hnmi hflush hstp => ?_⟩
  · have hrun : s.run ≠ .running := by
      obtain h | ⟨b, h⟩ := hr <;> simp [h]
    exact coreStep_idle hrun he ht hn hm hb
  · have hevents : s.events = [] :=
      (State.events_halted_nil hr).2 ⟨hinit, hsmi, .inl hnmi, .inr (.inl hi), hflush, hstp⟩
    exact coreStep_idle (by simp [hr]) hevents ht hn hm hb

end Sys2Proof.Machine
end

section
/-! PROOFS. Taking an exception, and failing to: O31, O33. -/

namespace Sys2Proof.Machine

/-! ### What an entry leaves (R366) -/

theorem State.framed_latch (s : State) (rip : Word) : (s.framed rip).latch = s.latch := by simp [State.framed]

/-- The frame takes no byte outside its three slots. -/
theorem State.framed_get {s : State} {rip : Word} {a : Nat} (h1 : a ∉ s.wordAt (s.linear .ss (s.slotBelow 1)))
    (h2 : a ∉ s.wordAt (s.linear .ss (s.slotBelow 2))) (h3 : a ∉ s.wordAt (s.linear .ss (s.slotBelow 3))) :
    Memory.get (s.framed rip).mem a = Memory.get s.mem a := by
  rw [State.framed, State.pokeWord_get (by simpa only [State.pokeWord_wordAt] using h3),
    State.pokeWord_get (by simpa only [State.pokeWord_wordAt] using h2), State.pokeWord_get h1]

theorem State.enterHandler_eip (s : State) (sp seg off : Word) : (s.enterHandler sp seg off).eip = zext32 off := rfl

theorem State.enterHandler_run (s : State) (sp seg off : Word) : (s.enterHandler sp seg off).run = .running := rfl

theorem State.enterHandler_dirty (s : State) (sp seg off : Word) : (s.enterHandler sp seg off).dirty = [] := rfl

theorem State.enterHandler_latch (s : State) (sp seg off : Word) :
    (s.enterHandler sp seg off).latch = { s.latch with shadow := .none } := rfl

theorem State.enterHandler_r32 (s : State) (sp seg off : Word) (r : Reg) :
    (s.enterHandler sp seg off).r32 r = (s.setR16 .sp sp).r32 r :=
  State.r32_of_gpr (s.enterHandler_gpr sp seg off) r

theorem State.enterHandler_sp (s : State) (sp seg off : Word) : (s.enterHandler sp seg off).r16 .sp = sp := by
  rw [State.r16_of_gpr (s.enterHandler_gpr sp seg off), State.r16_setR16, if_pos rfl]

theorem State.enterHandler_seg (s : State) (sp seg off : Word) (r : Sreg) :
    (s.enterHandler sp seg off).seg r = if r = .cs then (s.seg r).load seg else s.seg r := by
  rw [State.seg_of_sreg (s.enterHandler_sreg sp seg off), State.seg_loadSeg]

/-- A general register but SP is as it was before the entry. -/
theorem State.framed_enterHandler_r32 (s : State) (rip sp seg off : Word) {r : Reg} (h : r ≠ .sp) :
    ((s.framed rip).enterHandler sp seg off).r32 r = s.r32 r := by
  rw [State.enterHandler_r32, State.setR16, State.r32_setR32, if_neg h, State.r32_of_gpr (s.framed_gpr rip)]

theorem State.enterHandler_stackWord (s : State) (sp seg off t : Word) :
    (s.enterHandler sp seg off).peekWord ((s.enterHandler sp seg off).linear .ss t) =
      s.peekWord (s.linear .ss t) := rfl

/-- A handler finds the words of the stack where the interrupted program addresses them. -/
theorem State.framed_enterHandler_stackWord (s : State) (rip sp seg off t : Word) :
    ((s.framed rip).enterHandler sp seg off).peekWord (((s.framed rip).enterHandler sp seg off).linear .ss t) =
      (s.framed rip).peekWord (s.linear .ss t) := by
  rw [State.enterHandler_stackWord, State.linear_of_sreg (s.framed_sreg rip)]

/-- Settles O31: the entry is the three stores of its frame and the way into the handler, read field by field. -/
theorem trapEntryResult : Obligations.TrapEntryResult := by
  intro n c rip off seg s he hvec
  obtain ⟨-, -, h1, h2, h3⟩ := (s.canEnter_iff n).1 he
  obtain ⟨hflags, hcs, hrip⟩ := State.framed_peekWord rip h1 h2 h3
  refine ⟨s.entered n rip, deliver_entered c rip he, rfl, ?_⟩
  rw [State.entered_eq rip hvec]
  refine ⟨State.enterHandler_eip .., ?_, ?_, State.enterHandler_sp ..,
    fun r => State.framed_enterHandler_r32 s rip _ _ _, fun r hr => ?_, ?_, State.enterHandler_run ..,
    State.enterHandler_dirty .., ?_, ?_, ?_, ?_, fun a => State.framed_get⟩
  · rw [State.enterHandler_seg, if_pos rfl, SegReg.load_sel]
  · rw [State.enterHandler_seg, if_pos rfl, SegReg.load_base, selBase]
  · rw [State.enterHandler_seg, if_neg hr, State.seg_of_sreg (s.framed_sreg rip)]
  · rw [State.enterHandler_eflags, State.framed_eflags]
  · rw [State.enterHandler_latch, State.framed_latch]
  · rw [State.enterHandler_sp, State.framed_enterHandler_stackWord, hrip]
  · rw [State.enterHandler_sp, s.slotBelow_three_add_two, State.framed_enterHandler_stackWord, hcs]
  · rw [State.enterHandler_sp, s.slotBelow_three_add_four, State.framed_enterHandler_stackWord, hflags]

/-! ### An odd stack pointer (R370, R372) -/

/-- From SP 1, 3 or 5 one of the three slots is the word at FFFFh, whose second byte passes the limit. -/
theorem State.slotBelow_past_limit {s : State} (hsp : s.r16 .sp = 1 ∨ s.r16 .sp = 3 ∨ s.r16 .sp = 5)
    (hl : (s.seg .ss).limit = 0xFFFF) : s.inLimit .ss (s.slotBelow 1) 2 = false ∨
      s.inLimit .ss (s.slotBelow 2) 2 = false ∨ s.inLimit .ss (s.slotBelow 3) 2 = false := by
  have htop : ∀ k, s.slotBelow k = 0xFFFF → s.inLimit .ss (s.slotBelow k) 2 = false := fun k hk => by
    rw [State.inLimit, hk, hl]
    rfl
  obtain h | h | h := hsp
  · exact .inl (htop 1 (by rw [State.slotBelow, h]; rfl))
  · exact .inr (.inl (htop 2 (by rw [State.slotBelow, h]; rfl)))
  · exact .inr (.inr (htop 3 (by rw [State.slotBelow, h]; rfl)))

/-- Settles O33: no entry finds its three slots, neither the event's nor the one that follows its failure. -/
theorem oddStackShutsDown : Obligations.OddStackShutsDown := by
  intro n c rip s hsp hl hidt
  have hraise : ∀ m : Byte, trapEntry m rip s = .error (.raise .ss s) := fun m => by
    refine trapEntry_noSlot rip ?_ (State.slotBelow_past_limit hsp hl)
    have htable : s.sys.idtr.limit.toNat = 65535 := by rw [hidt]; rfl
    have := m.isLt
    omega
  rw [deliver, hraise n, conclude_raise, hraise, conclude_raise]
  rfl

end Sys2Proof.Machine
end

section
/-! PROOFS. When each pin event is recognised and what taking it does: O34, O54, O55, O56, O58. -/

namespace Sys2Proof.Machine

/-! ### The events of each run state (R380) -/

theorem State.mem_boundaryEvents (s : State) (e : Event) : e ∈ s.boundaryEvents ↔
    (e = .init ∧ s.latch.initPending = true) ∨ (e = .smi ∧ s.latch.smiPending = true) ∨
    (e = .nmi ∧ s.nmiReady = true) ∨ (e = .intr ∧ s.intrReady = true) ∨
    (e = .flush ∧ s.latch.flushPending = true) ∨ (e = .stpclk ∧ s.pins.inp.stpclk = true) := by
  simp [State.boundaryEvents, and_comm]

theorem State.mem_grantEvents (s : State) (e : Event) : e ∈ s.grantEvents ↔
    (e = .smi ∧ s.latch.smiPending = true) ∨ (e = .resume ∧ s.pins.inp.stpclk = false) := by
  cases h : s.pins.inp.stpclk <;> simp [State.grantEvents, h, and_comm]

theorem State.mem_shutdownEvents (s : State) (e : Event) : e ∈ s.shutdownEvents ↔
    (e = .init ∧ s.latch.initPending = true) ∨ (e = .lateNmi ∧ s.latch.nmiPending = true) ∨
    (e = .lateSmi ∧ s.latch.smiPending = true) := by
  simp [State.shutdownEvents, and_comm]

theorem State.events_boundary {s : State} (h : s.run = .running ∨ s.run = .halted) : s.events = s.boundaryEvents := by
  obtain h | h := h <;> rw [State.events, h]

theorem State.events_stopGrant {s : State} {b : Bool} (h : s.run = .stopGrant b) : s.events = s.grantEvents := by
  rw [State.events, h]

theorem State.events_shutdown {s : State} (h : s.run = .shutdown) : s.events = s.shutdownEvents := by
  rw [State.events, h]

/-- INTR, FLUSH# and STPCLK# are recognised nowhere but in a core that runs or is halted (R381, R386, R387). -/
theorem State.mem_events_iff_boundary (s : State) {e : Event} (h : e = .intr ∨ e = .flush ∨ e = .stpclk) :
    e ∈ s.events ↔ (s.run = .running ∨ s.run = .halted) ∧ e ∈ s.boundaryEvents := by
  unfold State.events
  cases s.run
  case running | halted => simp
  case stopGrant => obtain rfl | rfl | rfl := h <;> simp [State.mem_grantEvents]
  case shutdown => obtain rfl | rfl | rfl := h <;> simp [State.mem_shutdownEvents]
  case stuck => simp

/-- INIT is recognised wherever its latch is set, but in Stop Grant and in a stuck core (R372, R383). -/
theorem State.init_mem_events (s : State) : Event.init ∈ s.events ↔
    (s.run = .running ∨ s.run = .halted ∨ s.run = .shutdown) ∧ s.latch.initPending = true := by
  unfold State.events
  cases s.run
  case running | halted => simp [State.mem_boundaryEvents]
  case stopGrant => simp [State.mem_grantEvents]
  case shutdown => simp [State.mem_shutdownEvents]
  case stuck => simp

theorem State.nmiReady_iff (s : State) : s.nmiReady = true ↔
    s.latch.nmiPending = true ∧ s.latch.nmiBlocked = false ∧ s.latch.shadow ≠ .movSs := by
  simp only [State.nmiReady, Bool.and_eq_true, Bool.not_eq_true', decide_eq_true_eq, and_assoc]

theorem State.intrReady_iff (s : State) : s.intrReady = true ↔
    s.pins.inp.intr = true ∧ s.flag .intf = true ∧ s.intShadow = false := by
  simp only [State.intrReady, Bool.and_eq_true, Bool.not_eq_true', and_assoc]

/-! ### INIT (R383) -/

/-- CD and NW, bits 30 and 29 of CR0, outlive INIT, and the other bits take their reset values (R383, R410). -/
theorem initCr0_bit (old : Dword) {k : Nat} (hk : k < 32) : (initCr0 old).getLsbD k =
    if k = 29 ∨ k = 30 then old.getLsbD k else SysRegs.reset.cr0.getLsbD k := by
  have hkept : ∀ j < 32, (0x60000000#32).getLsbD j = decide (j = 29 ∨ j = 30) := by decide
  have hset : ∀ j < 32, (0x9FFFFFFF#32).getLsbD j = !decide (j = 29 ∨ j = 30) := by decide
  rw [initCr0, BitVec.getLsbD_or, BitVec.getLsbD_and, BitVec.getLsbD_and, hkept k hk, hset k hk]
  split <;> simp_all

/-- Settles O54: the lists of events name INIT, and CR0 is the one register INIT sets bit by bit. -/
theorem initSetsRegisters : Obligations.InitSetsRegisters :=
  ⟨State.init_mem_events, fun s => ⟨s.applyInit, rfl, rfl, rfl, rfl, rfl, rfl, fun _ => initCr0_bit s.sys.cr0, rfl, rfl,
    rfl, rfl, rfl, rfl, rfl, rfl, rfl, rfl, rfl, rfl⟩⟩

/-! ### NMI and INTR (R381, R382) -/

/-- Taking an NMI changes nothing an entry looks at. -/
theorem State.canEnter_nmiTaken (s : State) (n : Byte) :
    State.canEnter { s with latch := { s.latch with nmiPending := false, nmiBlocked := true } } n = s.canEnter n := rfl

theorem State.entered_latch {s : State} {n : Byte} (rip : Word) (h : s.canEnter n = true) :
    (s.entered n rip).latch = { s.latch with shadow := .none } := by
  obtain ⟨-, ⟨off, seg, hvec⟩, -⟩ := (s.canEnter_iff n).1 h
  rw [State.entered_eq rip hvec, State.enterHandler_latch, State.framed_latch]

/-- Settles O55: NMI is taken with its latches set for service, and the entry keeps them. -/
theorem nmiTaken : Obligations.NmiTaken := by
  refine ⟨fun s hrun => ?_, fun s he => ⟨_, deliver_entered false s.ip (by rwa [State.canEnter_nmiTaken]), rfl, ?_⟩⟩
  · rw [State.events_boundary hrun, State.mem_boundaryEvents, State.nmiReady_iff]
    simp
  · rw [State.entered_latch _ (by rwa [State.canEnter_nmiTaken])]
    exact ⟨rfl, rfl⟩

/-- The acknowledge takes the platform's next answer, whose low byte is the vector (R381). -/
theorem acknowledge_ok (s : State) :
    acknowledge s = .ok (loByte s.answer.1, s.answer.2.see (.intAck (loByte s.answer.1))) := by
  rw [acknowledge, State.answer]
  obtain ⟨v, rest, ha, hrun⟩ | ⟨ha, hrun⟩ := run_takeAnswer s <;> rw [run_bind_ok hrun, ha] <;> rfl

/-- Taking an answer of the platform changes nothing an entry looks at. -/
theorem State.canEnter_answer (s : State) (e : Seen) (n : Byte) : (s.answer.2.see e).canEnter n = s.canEnter n := by
  rw [State.answer]
  split <;> rfl

/-- Settles O56: INTR enters the vector of the acknowledge. -/
theorem intrTaken : Obligations.IntrTaken := by
  refine ⟨fun s => ?_, fun s he => ?_⟩
  · rw [s.mem_events_iff_boundary (.inl rfl), State.mem_boundaryEvents, State.intrReady_iff]
    simp
  · rw [takeEvent, acknowledge_ok, conclude_ok]
    exact deliver_entered false s.ip (by rwa [State.canEnter_answer])

/-! ### Shutdown (R372) -/

/-- In a shutdown with INIT latched alone, that is the event. -/
theorem State.events_shutdown_init {s : State} (h : s.run = .shutdown) (hi : s.latch.initPending = true)
    (hn : s.latch.nmiPending = false) (hs : s.latch.smiPending = false) : s.events = [.init] := by
  rw [State.events_shutdown h, State.shutdownEvents, hi, hn, hs]
  rfl

theorem State.events_shutdown_nil {s : State} (h : s.run = .shutdown) (hi : s.latch.initPending = false)
    (hn : s.latch.nmiPending = false) (hs : s.latch.smiPending = false) : s.events = [] := by
  rw [State.events_shutdown h, State.shutdownEvents, hi, hn, hs]
  rfl

/-- The events of a shutdown but INIT are refused. -/
theorem takeEvent_shutdown_refused {s t : State} {e : Event} (hi : s.latch.initPending = false)
    (h : e ∈ s.shutdownEvents) : takeEvent e t = .refused .shutdownEvent := by
  obtain ⟨-, h⟩ | ⟨rfl, -⟩ | ⟨rfl, -⟩ := (s.mem_shutdownEvents e).1 h
  · rw [hi] at h
    cases h
  · rfl
  · rfl

/-- Settles O34: by the events of a shut-down core, of which there is none, INIT alone, or no INIT. -/
theorem shutdownEnds : Obligations.ShutdownEnds := by
  intro s hrun hr ht hneeds hm hb
  refine ⟨fun hi hn hs => ?_, fun hi hn hs => ⟨s.applyInit.refreshOut, ?_, rfl, rfl, rfl⟩, fun hi hlate => ?_,
    ⟨_, perform_reset hr, rfl, rfl, rfl⟩⟩
  · exact coreStep_idle (by simp [hrun]) (State.events_shutdown_nil hrun hi hn hs) ht hneeds hm hb
  · rw [coreStep_serve hr ht hneeds hm hb (State.events_shutdown_init hrun hi hn hs)]
    rfl
  · obtain ⟨htakes, -⟩ := onePendingEventIsTaken
    have hevents : s.events ≠ [] := by
      rw [State.events_shutdown hrun, State.shutdownEvents]
      obtain h | h := hlate <;> simp [h]
    obtain ⟨e, he, n, hstep⟩ := htakes s hr ht hneeds hm hb hevents
    rw [State.events_shutdown hrun] at he
    rw [hstep, takeEvent_shutdown_refused hi he]
    rfl

/-! ### FLUSH# and STPCLK# (R386, R387) -/

/-- Stop Grant gives the core back as it was: halted where it was halted, running where it ran (R387). -/
theorem takeEvent_resume {s t : State} (h : s.run = .running ∨ s.run = .halted)
    (ht : t.run = .stopGrant (decide (s.run = .halted))) : takeEvent .resume t = .next { t with run := s.run } := by
  obtain h | h := h <;> rw [h] at ht ⊢ <;> simp [takeEvent, ht]

/-- Settles O58: by the events of each run state, and by what Stop Grant keeps of the run state before it. -/
theorem stopGrantReturns : Obligations.StopGrantReturns := by
  refine ⟨fun s => ⟨?_, ?_⟩, fun s h hrun e => ?_, fun s hrun => ⟨_, rfl, ?_, rfl, rfl, ?_, _, rfl, rfl⟩⟩
  · rw [s.mem_events_iff_boundary (.inr (.inl rfl)), State.mem_boundaryEvents]
    simp
  · rw [s.mem_events_iff_boundary (.inr (.inr rfl)), State.mem_boundaryEvents]
    simp
  · rw [State.events_stopGrant hrun, State.mem_grantEvents]
  · rw [State.events_stopGrant rfl, State.mem_grantEvents]
    simp
  · exact ⟨_, takeEvent_resume hrun rfl, rfl⟩

end Sys2Proof.Machine
end

section
/-! PROOFS. The two edges of RESET: O52. -/

namespace Sys2Proof.Machine

/-- While RESET is asserted the core does nothing (R385). -/
theorem coreStep_reset {s : State} (h : s.pins.inp.reset = true) : coreStep s = .next s := by
  rw [coreStep, if_pos h]

theorem Gpr.reset_r32 {s : State} {signature : Dword} (h : s.gpr = Gpr.reset signature) (r : Reg) :
    s.r32 r = if r = .dx then signature else 0 := by
  cases r <;> simp only [State.r32, h] <;> rfl

/-- Every segment register but CS starts as a data segment at 0 (R410). -/
theorem Sregs.reset_seg {s : State} (h : s.sreg = Sregs.reset) {r : Sreg} (hr : r ≠ .cs) :
    s.seg r = SegReg.resetData := by
  cases r
  case cs => exact absurd rfl hr
  all_goals simp only [State.seg, h]; rfl

theorem Sregs.reset_limit {s : State} (h : s.sreg = Sregs.reset) (r : Sreg) : (s.seg r).limit = 0xFFFF := by
  cases r <;> simp only [State.seg, h] <;> rfl

theorem InPins.ratio_bit (p : InPins) :
    p.ratio.getLsbD 0 = p.bf0 ∧ p.ratio.getLsbD 1 = p.bf1 ∧ p.ratio.getLsbD 2 = p.bf2 := by
  have hbits : ∀ a b c : Bool, ∀ x : BitVec 3, x = BitVec.ofBool c ++ BitVec.ofBool b ++ BitVec.ofBool a →
      x.getLsbD 0 = a ∧ x.getLsbD 1 = b ∧ x.getLsbD 2 = c := by decide
  exact hbits _ _ _ _ rfl

/-- The falling edge of RESET is `endReset` with the pin negated (R412). -/
theorem perform_endReset {s : State} (h : s.pins.inp.reset = true) : perform (.drive .reset false) s =
    State.endReset { s with pins := { s.pins with inp := s.pins.inp.set .reset false } } := by
  have hold : s.pins.inp.get HostPin.reset.pin = true := h
  exact (if_neg (by simp)).trans (if_pos (by rw [hold]; rfl))

theorem State.endReset_flush {s : State} (h : s.pins.inp.flush = true) : s.endReset = .refused .triStateTest := by
  rw [State.endReset, if_pos h]

theorem State.endReset_plain {s : State} (hf : s.pins.inp.flush = false) (hi : s.pins.inp.init = false) :
    s.endReset = .next { s with bfRatio := s.pins.inp.ratio } := by
  simp [State.endReset, hf, hi]

/-- INIT high at the falling edge asks for the built-in self-test, whose result in EAX is free (R410, R412). -/
theorem State.endReset_selfTest {s : State} (hf : s.pins.inp.flush = false) (hi : s.pins.inp.init = true) :
    s.endReset = .next { State.setR32 { s with bfRatio := s.pins.inp.ratio } .ax ((Config.draw s.draws).setWidth 32) with
      draws := s.draws + 1 } := by
  simp [State.endReset, hf, hi]

/-- Settles O52: the rising edge sets core and TAP, the falling edge samples the pins. -/
theorem resetPinAppliesReset : Obligations.ResetPinAppliesReset := by
  refine ⟨fun s h => ⟨_, perform_reset h, ?_⟩, fun s h hf => ?_, fun s h hf => ?_⟩
  · refine ⟨Gpr.reset_r32 rfl, rfl, ?_, rfl, rfl, fun r hr => ?_, Sregs.reset_limit rfl, rfl, rfl, rfl, rfl, rfl, rfl, rfl,
      rfl, rfl, rfl, rfl, rfl, rfl, rfl, rfl, rfl, rfl, rfl, rfl, rfl, rfl, coreStep_reset rfl⟩
    · exact (by decide : Eflags.reset.bits = 2)
    · rw [Sregs.reset_seg rfl hr]
      exact ⟨rfl, rfl⟩
  · rw [perform_endReset h]
    exact State.endReset_flush hf
  · obtain ⟨h0, h1, h2⟩ := s.pins.inp.ratio_bit
    rw [perform_endReset h]
    exact ⟨{ s with pins := { s.pins with inp := { s.pins.inp with reset := false } }, bfRatio := s.pins.inp.ratio },
      rfl, h0, h1, h2, fun hi => State.endReset_plain (by exact hf) (by exact hi),
      fun hi => State.endReset_selfTest (by exact hf) (by exact hi)⟩

end Sys2Proof.Machine
end

section
/-! PROOFS. The state after reset: O51. -/

namespace Sys2Proof.Machine

theorem Sregs.reset_cs {s : State} (h : s.sreg = Sregs.reset) : s.seg .cs = SegReg.resetCode := by
  rw [State.seg, h, Sregs.reset]

/-- R410 marks every segment register, CS too, as present and accessed. -/
theorem Sregs.reset_present_accessed {s : State} (h : s.sreg = Sregs.reset) (r : Sreg) :
    (s.seg r).attrs.present = true ∧ (s.seg r).attrs.accessed = true := by
  by_cases hr : r = .cs
  · rw [hr, Sregs.reset_cs h]
    exact ⟨rfl, rfl⟩
  · rw [Sregs.reset_seg h hr]
    exact ⟨rfl, rfl⟩

/-- The base of CS, not its selector, puts the first fetch 16 bytes below 4 GiB (R411); bit 20 is not masked there. -/
theorem State.reset_firstFetch :
    State.reset.phys (State.reset.linear .cs State.reset.ip) = 0xFFFFFFF0 := by
  have hlinear : State.reset.linear .cs State.reset.ip = 0xFFFFFFF0 := by
    rw [State.linear, Sregs.reset_cs rfl]
    decide
  rw [State.phys_unmasked rfl, hlinear]
  rfl

/-- Settles O51: the general registers and the segment registers by the lemmas on their reset values, the rest field
by field. -/
theorem resetStateValues : Obligations.ResetStateValues := by
  have hgpr : ∀ r, State.reset.r32 r = if r = .dx then Board.default.cpuSignature else 0 := Gpr.reset_r32 rfl
  have hdata : ∀ r, r ≠ .cs → State.reset.seg r = SegReg.resetData := fun _ => Sregs.reset_seg rfl
  have hcode : State.reset.seg .cs = SegReg.resetCode := Sregs.reset_cs rfl
  refine ⟨hgpr .ax, ?dx, fun r hr => (hgpr r).trans (if_neg hr), rfl, ?eflags, ?selector, ?base, ?data,
    Sregs.reset_limit rfl, rfl, rfl, rfl, rfl, rfl, rfl, rfl, rfl, rfl, rfl, rfl, rfl, rfl, rfl,
    Sregs.reset_present_accessed rfl, ?writable, ?readable, ?executable, rfl, rfl, rfl, rfl, rfl, rfl, rfl, rfl, rfl,
    rfl, rfl, rfl, rfl, rfl, rfl, rfl, rfl, State.reset_firstFetch⟩
  case dx =>
    rw [hgpr .dx]
    decide
  case eflags => exact (by decide : Eflags.reset.bits = 2)
  case data =>
    intro r hr
    rw [hdata r hr]
    exact ⟨rfl, rfl⟩
  case writable =>
    intro r hr
    rw [hdata r hr]
    rfl
  all_goals rw [hcode]; rfl

end Sys2Proof.Machine
end
